-- ==== Sys2Proof/Word.lean ====
section
/-! DEFINITION. The widths the spec uses: a logic level (one bit), a nibble (four bits) and a reading (eight bits),
all unsigned (00_scope.md R8). -/

namespace Sys2Proof

/-- A logic level or a one-bit register: `true` is 1 (high, asserted), `false` is 0 (00_scope.md R8,
30_encoding.md R84, R85). -/
abbrev Level := Bool

/-- A 4-bit nibble, the unit `DATA_BUS` carries (20_memory.md R61). -/
abbrev Nibble := BitVec 4

/-- An 8-bit unsigned reading of one analog channel (00_scope.md R5, 10_state.md R21). -/
abbrev Reading := BitVec 8

end Sys2Proof
end

