-- ==== Sys2Proof/Syntax.lean ====
section
/-! DEFINITION. The eleven operations of the engine: the rows of spec/opcode_table.json, which are the values of
`PHASE` (10_state.md R24, 30_encoding.md R80). No operation has an operand field. -/

namespace Sys2Proof

/-- One constructor per operation, in the order of 10_state.md R24. -/
inductive Instr where
  /-- Await session start (R101). -/
  | idle
  /-- Sample light (R121). -/
  | smpL
  /-- Sample temperature (R122). -/
  | smpT
  /-- Sample sound, then signal sampling complete (R123). -/
  | smpS
  /-- Await start of frame, place light-lo (R141). -/
  | wSof
  /-- Place light-hi (R143). -/
  | wLh
  /-- Place temp-lo, capture port0 (R144). -/
  | wTl
  /-- Place temp-hi (R145). -/
  | wTh
  /-- Place sound-lo, capture port1 (R146). -/
  | wSl
  /-- Place sound-hi (R147). -/
  | wSh
  /-- Await session end, commit (R103). -/
  | wEnd
  deriving DecidableEq, Repr

/-- `PHASE` holds an operation: "the operation the engine performs at a tick is selected by `code` alone" (R80).
The eleven values are enumerated as R24 asks, so a reserved code cannot be held (assumption 1). -/
abbrev Phase := Instr

end Sys2Proof
end

