-- ==== Sys2Proof/WellFormed.lean ====
section
/-! DEFINITION. What a well-formed operation is. An operation has no operand field (30_encoding.md R80), so the only
check of an encoding is that its code is one of the eleven assigned ones (R81). -/

namespace Sys2Proof

/-- The code is assigned: 0 to 10; codes 11 to 15 are reserved (30_encoding.md R80, R81). -/
def codeAssigned (c : BitVec 4) : Bool := decide (c.toNat ≤ 10)

/-- Every operation is well-formed: none has an operand that could be out of range (30_encoding.md R80). -/
def Instr.wf (_ : Instr) : Bool := true

end Sys2Proof
end

