-- ==== Sys2Proof/Decode.lean ====
section
/-! DEFINITION. From a code to an operation and back (30_encoding.md R80, R81), total, rejecting by name; then
the encoder. The table has the rows of spec/opcode_table.json. -/

namespace Sys2Proof

/-- Why a code or a row of bytes is no operation. -/
inductive DecodeReject where
  /-- Codes 11 to 15 are reserved (30_encoding.md R81; 93_implementation_defined.md U2 says refuse). Safe. -/
  | reservedCode (c : BitVec 4)
  /-- A byte with a bit above bit 3: `PHASE4` has four bits (R80, assumption 8). Safe. -/
  | widerThanPhase4 (b : BitVec 8)
  /-- Not one byte: an operation is one 4-bit word, no variable-length form exists (R81). Safe. -/
  | notOneByte (n : Nat)
  deriving DecidableEq, Repr

/-- A row of the opcode table: a code matches when its bits under `mask` are those of `pattern`. -/
structure OpcodeRow where
  pattern : BitVec 4
  mask : BitVec 4
  op : Instr
  deriving DecidableEq, Repr

/-- The eleven rows of spec/opcode_table.json, `mask = 0xF` in each (30_encoding.md R80). -/
def opcodeTable : List OpcodeRow :=
  [⟨0x0, 0xF, .idle⟩, ⟨0x1, 0xF, .smpL⟩, ⟨0x2, 0xF, .smpT⟩, ⟨0x3, 0xF, .smpS⟩, ⟨0x4, 0xF, .wSof⟩, ⟨0x5, 0xF, .wLh⟩,
   ⟨0x6, 0xF, .wTl⟩, ⟨0x7, 0xF, .wTh⟩, ⟨0x8, 0xF, .wSl⟩, ⟨0x9, 0xF, .wSh⟩, ⟨0xA, 0xF, .wEnd⟩]

/-- The row's pattern matches the code under the row's mask. -/
def rowMatches (c : BitVec 4) (row : OpcodeRow) : Bool := c &&& row.mask == row.pattern

/-- The operation a 4-bit code names, or the reserved code rejected by name (30_encoding.md R80, R81). -/
def decode (c : BitVec 4) : Except DecodeReject Instr :=
  match opcodeTable.find? (rowMatches c) with
  | some row => .ok row.op
  | none => .error (.reservedCode c)

/-- The operation in a list of bytes: one byte whose low four bits are the code and whose other bits are 0
(assumption 8). -/
def decodeBytes (bytes : List (BitVec 8)) : Except DecodeReject Instr :=
  match bytes with
  | [b] => if b.toNat < 16 then decode (b.setWidth 4) else .error (.widerThanPhase4 b)
  | other => .error (.notOneByte other.length)

/-- The code of an operation (30_encoding.md R80). -/
def encode : Instr → BitVec 4
  | .idle => 0b0000
  | .smpL => 0b0001
  | .smpT => 0b0010
  | .smpS => 0b0011
  | .wSof => 0b0100
  | .wLh => 0b0101
  | .wTl => 0b0110
  | .wTh => 0b0111
  | .wSl => 0b1000
  | .wSh => 0b1001
  | .wEnd => 0b1010

/-- The byte that carries an operation's code. -/
def encodeByte (i : Instr) : BitVec 8 := (encode i).setWidth 8

/-- The `count` bytes of the number `w`, the least significant first. -/
def lowBytes : Nat → Nat → List (BitVec 8)
  | 0, _ => []
  | count + 1, w => BitVec.ofNat 8 w :: lowBytes count (w / 256)

/-- The operation read from a table row's word `w` of `nbits` bits, bit 0 the least significant of the first byte; a word
with a bit beyond its bytes is none (assumption 8). -/
def decodeTableWord (nbits w : Nat) : Option Instr :=
  if w < 256 ^ ((nbits + 7) / 8) then
    match decodeBytes (lowBytes ((nbits + 7) / 8) w) with
    | .ok i => some i
    | .error _ => none
  else none

end Sys2Proof
end

