-- ==== Sys2Proof/Config.lean ====
section
/-! DEFINITION. What a tick samples (10_state.md R36), the open parameters of the spec (00_scope.md R6) and the free
value that stands for inputs nobody has fixed (10_state.md R34). The constants have no body, so every statement about
the machine holds for every value of them. -/

namespace Sys2Proof

/-- The inputs of `step`, sampled once per tick, each a clean 0 or 1 (10_state.md R36). -/
structure Input where
  /-- Level of `ATTENTION`, 1 = asserted. -/
  att : Level
  /-- Level of `FRAME_CLOCK`, 1 = asserted. -/
  fc : Level
  /-- The level `DATA_READY` has when the peripheral releases it. -/
  rdyExt : Level
  /-- The conversion of the channel on `ADC_CH` is complete. -/
  adcDone : Level
  /-- The result, meaningful only with `adcDone`. -/
  adcVal : Reading
  deriving DecidableEq, Repr, Inhabited

namespace Config

/-- The open parameter `PORT_RESET`, `{port1, port0}` (00_scope.md R6, 10_state.md R40). DESIGN CHOICE, assumption 4:
left uninterpreted, as R6 lets a model quantify over it. Safe. -/
opaque portReset : BitVec 2

/-- The open parameter `ADC_LATENCY_MAX`: `some m` is a bound of `m` ticks, `none` is unbounded but finite
(00_scope.md R6). DESIGN CHOICE, assumption 6: uninterpreted; only the collaborator's duty uses it. Safe. -/
opaque adcLatencyMax : Option Nat

/-- The inputs of the tick with the given number, where the state lists none: a free input (10_state.md R34, R126).
DESIGN CHOICE, assumption 2: uninterpreted. Safe. -/
opaque freeInput : Nat → Input

end Config

end Sys2Proof
end

