-- ==== Sys2Proof/Machine/State.lean ====
section
/-! DEFINITION. The machine's state: the eleven registers of 10_state.md R20 and, beside them, the model's own record
of the inputs to come. Reset is 10_state.md R40 and 70_reset_and_hazards.md R240. -/

namespace Sys2Proof.Machine

/-- The whole state of the engine, eleven registers, 38 bits: "Nothing else is state" (10_state.md R20). -/
structure Regs where
  /-- `PHASE`, in the place of a program counter (R24). -/
  phase : Phase
  /-- `LIGHT` (R21). -/
  light : Reading
  /-- `TEMP` (R21). -/
  temp : Reading
  /-- `SOUND` (R21). -/
  sound : Reading
  /-- `CAP0`, captured and uncommitted (R23). -/
  cap0 : Level
  /-- `CAP1`, captured and uncommitted (R23). -/
  cap1 : Level
  /-- `PORT0`, committed, drives output pin 0 (R29). -/
  port0 : Level
  /-- `PORT1`, committed, drives output pin 1 (R29). -/
  port1 : Level
  /-- `RDY_LOW`: 1 = the `DATA_READY` pin drives low, 0 = released (R26). -/
  rdyLow : Level
  /-- `BUS_EN`: 1 = the peripheral drives `DATA_BUS` (R27). -/
  busEn : Level
  /-- `BUS_OUT`, the nibble driven while `BUS_EN = 1` (R28). -/
  busOut : Nibble
  deriving DecidableEq, Repr

/-- The engine's registers and the model's own record of the inputs (10_state.md R34 calls the inputs parameters of
the step relation; assumption 2). -/
structure State where
  /-- The engine's registers. -/
  regs : Regs
  /-- MODEL'S OWN: the inputs given for the coming ticks, the next tick's first. -/
  inputs : List Input
  /-- MODEL'S OWN: how many ticks have been taken; the argument of `Config.freeInput`. -/
  tick : Nat
  deriving DecidableEq, Repr

/-- Why a step could fault. It has no constructor: `step` "never faults, never refuses and never halts"
(43_engine_step.md R171); nobody raises one (assumption 25). Safe. -/
inductive Fault where
  deriving DecidableEq, Repr

/-- Why a step could be refused. -/
inductive Refusal where
  /-- An operation without a meaning, raised only by an arm of `exec`; no arm raises it, every operation of the table
  has its meaning. Safe: a refused step proves nothing about the hardware. -/
  | notModelled (mnemonic : String)
  deriving DecidableEq, Repr

/-- The registers after reset with the given `PORT_RESET` (10_state.md R40). `LIGHT`, `TEMP`, `SOUND`, `CAP0`, `CAP1`
are unspecified there: DESIGN CHOICE zero, assumption 5. Unsafe. -/
def Regs.reset (portReset : BitVec 2) : Regs :=
  { phase := .idle
    light := 0x00, temp := 0x00, sound := 0x00
    cap0 := false, cap1 := false
    port0 := portReset.getLsbD 0, port1 := portReset.getLsbD 1
    rdyLow := false, busEn := false, busOut := 0xF }

/-- The machine right after reset (70_reset_and_hazards.md R240). The inputs are not given (assumption 3). -/
def State.reset : State :=
  { regs := Regs.reset Config.portReset, inputs := [], tick := 0 }

end Sys2Proof.Machine
end

