-- ==== Sys2Proof/Machine/Operands.lean ====
section
/-! DEFINITION. The operands of the operations: the inputs sampled at a tick, the level of a line as the engine's pin
sees it, and the two halves of a reading. -/

namespace Sys2Proof.Machine

/-- `lo(v) = v[3:0]`, the source's `v & 0xF` (30_encoding.md R88). -/
def lo (v : Reading) : Nibble := v.extractLsb' 0 4

/-- `hi(v) = v[7:4]`, the source's `v >> 4` (30_encoding.md R88). -/
def hi (v : Reading) : Nibble := v.extractLsb' 4 4

/-- The lines the engine reads; it "never reads `DATA_BUS`" (20_memory.md R52). -/
inductive Line where
  | attention
  | frameClock
  | dataReady
  deriving DecidableEq, Repr

/-- The level of the shared line: `rdy_ext AND NOT RDY_LOW` (20_memory.md R51; PRESUMED by the spec itself, U9,
assumption 15). -/
def dataReadyLevel (i : Input) (r : Regs) : Level := i.rdyExt && !r.rdyLow

/-- `LineRead(L)`: the level of line `L` at the instant the tick samples its inputs (20_memory.md R52). -/
def lineRead (line : Line) (i : Input) (r : Regs) : Level :=
  match line with
  | .attention => i.att
  | .frameClock => i.fc
  | .dataReady => dataReadyLevel i r

/-- The inputs sampled at this tick: the first that the state gives, or a free input (10_state.md R36, R34;
assumption 2). -/
def State.sampled (s : State) : Input :=
  match s.inputs with
  | i :: _ => i
  | [] => Config.freeInput s.tick

end Sys2Proof.Machine
end

