-- ==== Sys2Proof/Machine/Flags.lean ====
section
/-! DEFINITION. The predicates over the sampled inputs (10_state.md R30) and the capture of the two flags `CAP0`,
`CAP1`, the only flags of the engine (10_state.md R23). -/

namespace Sys2Proof.Machine

/-- `abort_cond := (att = 0)` (10_state.md R30). -/
def abortCond (i : Input) : Bool := !i.att

/-- The level of `FRAME_CLOCK` a wait phase waits for, none in the other phases (10_state.md R30,
42_nibble_sequencer.md R140). -/
def want (p : Phase) : Option Level :=
  match p with
  | .wSof | .wTl | .wSl => some true
  | .wLh | .wTh | .wSh => some false
  | .idle | .smpL | .smpT | .smpS | .wEnd => none

/-- `go(S)`, the progress condition of wait phase `S` (10_state.md R30). -/
def go (p : Phase) (i : Input) : Bool := want p == some i.fc

/-- A wait phase: one of the six in which an abandonment can be raised (00_scope.md R13, 60_exceptions.md R202). -/
def isWait (p : Phase) : Bool := (want p).isSome

/-- `CAP0 <- LineRead(DATA_READY)`; the line is read with the registers before the tick (42_nibble_sequencer.md R144,
20_memory.md R60). -/
def Regs.capturePort0 (r : Regs) (level : Level) : Regs := { r with cap0 := level }

/-- `CAP1 <- LineRead(DATA_READY)` (42_nibble_sequencer.md R146). -/
def Regs.capturePort1 (r : Regs) (level : Level) : Regs := { r with cap1 := level }

end Sys2Proof.Machine
end

