-- ==== Sys2Proof/Machine/Ops.lean ====
section
/-! DEFINITION. The named operations of the spec over the registers (20_memory.md R53 to R56, 40_session_controller.md
R104, R106), the abandonment as one shared operation (60_exceptions.md R204), the forms the phases share, and the
fetch. There is no return from an abandonment (60_exceptions.md R207). -/

namespace Sys2Proof.Machine

/-! ### Line writes -/

/-- `BusDrive(n)` (20_memory.md R53). -/
def Regs.busDrive (r : Regs) (n : Nibble) : Regs := { r with busOut := n, busEn := true }

/-- `BusRelease()` (20_memory.md R54). -/
def Regs.busRelease (r : Regs) : Regs := { r with busEn := false, busOut := 0xF }

/-- `RdyLow()`: the pin becomes an output driving low (20_memory.md R55). -/
def Regs.rdyPullLow (r : Regs) : Regs := { r with rdyLow := true }

/-- `RdyRelease()`: the pin becomes an input (20_memory.md R56). -/
def Regs.rdyRelease (r : Regs) : Regs := { r with rdyLow := false }

/-! ### Control, commit, cleanup, abandonment -/

/-- `PHASE <- p`, the control transfer (00_scope.md R9). -/
def Regs.goto (r : Regs) (p : Phase) : Regs := { r with phase := p }

/-- `Commit()`: both ports in the same tick (40_session_controller.md R104). -/
def Regs.commit (r : Regs) : Regs := { r with port0 := r.cap0, port1 := r.cap1 }

/-- `Cleanup()` := `RdyRelease(); BusRelease()` (40_session_controller.md R106). -/
def Regs.cleanup (r : Regs) : Regs := r.rdyRelease.busRelease

/-- `raise ABANDON`: the cleanup and the way back to `IDLE`, nothing saved, no port written (60_exceptions.md R204). -/
def Regs.abandon (r : Regs) : Regs := r.cleanup.goto .idle

/-! ### Latching a sample -/

/-- `LIGHT <- v` (41_sampling.md R121). -/
def Regs.latchLight (r : Regs) (v : Reading) : Regs := { r with light := v }

/-- `TEMP <- v` (41_sampling.md R122). -/
def Regs.latchTemp (r : Regs) (v : Reading) : Regs := { r with temp := v }

/-- `SOUND <- v` (41_sampling.md R123). -/
def Regs.latchSound (r : Regs) (v : Reading) : Regs := { r with sound := v }

/-! ### The forms the phases share -/

/-- A sampling phase: at `adc_done = 1` the sample is taken by `fire`, else stay; `att` is not read
(41_sampling.md R120, R124). -/
def awaitSample (fire : Reading → Regs → Regs) (i : Input) (r : Regs) : Regs :=
  if i.adcDone then fire i.adcVal r else r

/-- A wait phase `p`: abandonment first, then progress by `fire`, else stay (42_nibble_sequencer.md R140,
60_exceptions.md R210). -/
def awaitFrameClock (p : Phase) (fire : Regs → Regs) (i : Input) (r : Regs) : Regs :=
  if abortCond i then r.abandon else if go p i then fire r else r

/-- A meaning as a next state: the registers after the transition `f` on the inputs of this tick. Every operation
answers so, none faults (00_scope.md R10, 43_engine_step.md R171). -/
def State.transition (s : State) (f : Input → Regs → Regs) : Host.Outcome State Fault Refusal :=
  .next { s with regs := f s.sampled s.regs }

/-! ### The tick, the fetch, the power cycle -/

/-- The end of the tick: its inputs are used up, the next tick has its own (00_scope.md R7; assumption 11). -/
def State.nextTick (s : State) : State := { s with inputs := s.inputs.tail, tick := s.tick + 1 }

/-- The operation of this tick: the one `PHASE` holds (30_encoding.md R80). -/
def State.fetch (s : State) : Instr := s.regs.phase

/-- The state with the operation of the table word `w` in `PHASE`; a word that is no operation changes nothing, since
`PHASE` cannot hold it (30_encoding.md R81, assumption 9). -/
def State.placeWord (s : State) (nbits w : Nat) : State :=
  match decodeTableWord nbits w with
  | some i => { s with regs := s.regs.goto i }
  | none => s

/-- A power cycle: the registers as after reset, nothing carried over, the world outside untouched
(70_reset_and_hazards.md R240). No step of the engine does this (assumption 19). -/
def State.powerCycle (s : State) : State := { s with regs := Regs.reset Config.portReset }

end Sys2Proof.Machine
end

