-- ==== Sys2Proof/Machine/Nibbles.lean ====
section
/-! DEFINITION. The six wait phases, each placing one nibble (42_nibble_sequencer.md). -/

namespace Sys2Proof.Machine

/-- `W_SOF` on the sampled inputs: light-lo on the bus and `DATA_READY` released, one transition (R141). -/
def wSofTick (i : Input) (r : Regs) : Regs :=
  awaitFrameClock .wSof (fun r => ((r.busDrive (lo r.light)).rdyRelease).goto .wLh) i r

/-- `W_LH` on the sampled inputs (R143). -/
def wLhTick (i : Input) (r : Regs) : Regs :=
  awaitFrameClock .wLh (fun r => (r.busDrive (hi r.light)).goto .wTl) i r

/-- `W_TL` on the sampled inputs: temp-lo on the bus, the level of `DATA_READY` captured in `CAP0` (R144). -/
def wTlTick (i : Input) (r : Regs) : Regs :=
  awaitFrameClock .wTl
    (fun r => ((r.busDrive (lo r.temp)).capturePort0 (lineRead .dataReady i r)).goto .wTh) i r

/-- `W_TH` on the sampled inputs (R145). -/
def wThTick (i : Input) (r : Regs) : Regs :=
  awaitFrameClock .wTh (fun r => (r.busDrive (hi r.temp)).goto .wSl) i r

/-- `W_SL` on the sampled inputs: sound-lo on the bus, the level of `DATA_READY` captured in `CAP1` (R146). -/
def wSlTick (i : Input) (r : Regs) : Regs :=
  awaitFrameClock .wSl
    (fun r => ((r.busDrive (lo r.sound)).capturePort1 (lineRead .dataReady i r)).goto .wSh) i r

/-- `W_SH` on the sampled inputs (R147). -/
def wShTick (i : Input) (r : Regs) : Regs :=
  awaitFrameClock .wSh (fun r => (r.busDrive (hi r.sound)).goto .wEnd) i r

/-- `W_SOF` (42_nibble_sequencer.md R141). -/
def execWSof (s : State) : Host.Outcome State Fault Refusal := s.transition wSofTick

/-- `W_LH` (42_nibble_sequencer.md R143). -/
def execWLh (s : State) : Host.Outcome State Fault Refusal := s.transition wLhTick

/-- `W_TL` (42_nibble_sequencer.md R144). -/
def execWTl (s : State) : Host.Outcome State Fault Refusal := s.transition wTlTick

/-- `W_TH` (42_nibble_sequencer.md R145). -/
def execWTh (s : State) : Host.Outcome State Fault Refusal := s.transition wThTick

/-- `W_SL` (42_nibble_sequencer.md R146). -/
def execWSl (s : State) : Host.Outcome State Fault Refusal := s.transition wSlTick

/-- `W_SH` (42_nibble_sequencer.md R147). -/
def execWSh (s : State) : Host.Outcome State Fault Refusal := s.transition wShTick

end Sys2Proof.Machine
end

