-- ==== Sys2Proof/Machine/Sampling.lean ====
section
/-! DEFINITION. The three sampling phases `SMP_L`, `SMP_T`, `SMP_S` (41_sampling.md). -/

namespace Sys2Proof.Machine

/-- `SMP_L` on the sampled inputs (41_sampling.md R121). -/
def smpLTick (i : Input) (r : Regs) : Regs :=
  awaitSample (fun v r => (r.latchLight v).goto .smpT) i r

/-- `SMP_T` on the sampled inputs (41_sampling.md R122). -/
def smpTTick (i : Input) (r : Regs) : Regs :=
  awaitSample (fun v r => (r.latchTemp v).goto .smpS) i r

/-- `SMP_S` on the sampled inputs: the third sample and, in the same transition, `DATA_READY` pulled low
(41_sampling.md R123). -/
def smpSTick (i : Input) (r : Regs) : Regs :=
  awaitSample (fun v r => ((r.latchSound v).rdyPullLow).goto .wSof) i r

/-- `SMP_L` (41_sampling.md R121). -/
def execSmpL (s : State) : Host.Outcome State Fault Refusal := s.transition smpLTick

/-- `SMP_T` (41_sampling.md R122). -/
def execSmpT (s : State) : Host.Outcome State Fault Refusal := s.transition smpTTick

/-- `SMP_S` (41_sampling.md R123). -/
def execSmpS (s : State) : Host.Outcome State Fault Refusal := s.transition smpSTick

end Sys2Proof.Machine
end

