-- ==== Sys2Proof/Machine/Session.lean ====
section
/-! DEFINITION. The two operations of the Session Controller: `IDLE` and `W_END` (40_session_controller.md). -/

namespace Sys2Proof.Machine

/-- `IDLE` on the sampled inputs: `att = 1` opens a session, nothing else is written (40_session_controller.md R101). -/
def idleTick (i : Input) (r : Regs) : Regs :=
  if i.att then r.goto .smpL else r

/-- `W_END` on the sampled inputs: at `att = 0` commit, cleanup and back to `IDLE` in one transition
(40_session_controller.md R103). -/
def wEndTick (i : Input) (r : Regs) : Regs :=
  if i.att then r else (r.commit.cleanup).goto .idle

/-- `IDLE` (40_session_controller.md R101). -/
def execIdle (s : State) : Host.Outcome State Fault Refusal := s.transition idleTick

/-- `W_END` (40_session_controller.md R103). -/
def execWEnd (s : State) : Host.Outcome State Fault Refusal := s.transition wEndTick

end Sys2Proof.Machine
end

