-- ==== Sys2Proof/Machine/Dispatch.lean ====
section
/-! DEFINITION. One arm per operation (30_encoding.md R80): the composed step of 43_engine_step.md R170. -/

namespace Sys2Proof.Machine

/-- The operation `i` performed once on the state, on the inputs of this tick (43_engine_step.md R170). -/
def exec (i : Instr) (s : State) : Host.Outcome State Fault Refusal :=
  match i with
  | .idle => Sys2Proof.Machine.execIdle s
  | .smpL => Sys2Proof.Machine.execSmpL s
  | .smpT => Sys2Proof.Machine.execSmpT s
  | .smpS => Sys2Proof.Machine.execSmpS s
  | .wSof => Sys2Proof.Machine.execWSof s
  | .wLh => Sys2Proof.Machine.execWLh s
  | .wTl => Sys2Proof.Machine.execWTl s
  | .wTh => Sys2Proof.Machine.execWTh s
  | .wSl => Sys2Proof.Machine.execWSl s
  | .wSh => Sys2Proof.Machine.execWSh s
  | .wEnd => Sys2Proof.Machine.execWEnd s

end Sys2Proof.Machine
end

