-- ==== Sys2Proof/Machine/Step.lean ====
section
/-! DEFINITION. One tick: the operation `PHASE` holds is performed once on the inputs of the tick, then the tick ends
(00_scope.md R7, R10). -/

namespace Sys2Proof.Machine

/-- One tick of the engine (00_scope.md R7, 43_engine_step.md R170). -/
def step (s : State) : Host.Outcome State Fault Refusal :=
  match exec s.fetch s with
  | .next t => .next t.nextTick
  | .fault r => .fault r
  | .refused r => .refused r

/-- The state whose next step performs the operation of the table word `w` (assumption 9). -/
def State.withFetchWord (s : State) (nbits w : Nat) : State := s.placeWord nbits w

end Sys2Proof.Machine
end

