-- ==== Sys2Proof/Machine/Output.lean ====
section
/-! DEFINITION. The output function (43_engine_step.md R172) and the test-vector words (30_encoding.md R89, R90). -/

namespace Sys2Proof.Machine

/-- The channel selector `ADC_CH` (30_encoding.md R86). -/
inductive Channel where
  | light
  | temperature
  | sound
  | noChannel
  deriving DecidableEq, Repr

/-- The codes of `ADC_CH[1:0]` (30_encoding.md R86). -/
def channelCode (c : Channel) : BitVec 2 :=
  match c with
  | .light => 0
  | .temperature => 1
  | .sound => 2
  | .noChannel => 3

/-- What the peripheral's pin does to `DATA_READY`: there is no state that drives it high (20_memory.md R51). -/
inductive Drive where
  | released
  | low
  deriving DecidableEq, Repr

/-- The outputs of the engine (10_state.md R37). -/
structure Output where
  /-- Level of `DATA_BUS[3:0]`; bit `i` is bit `i` of the nibble (30_encoding.md R87). -/
  dataBus : Nibble
  /-- Drive of `DATA_READY`. -/
  dataReady : Drive
  /-- Level of output pin 0. -/
  pin0 : Level
  /-- Level of output pin 1. -/
  pin1 : Level
  /-- A sample of `adcCh` is wanted. -/
  adcReq : Level
  /-- The channel selected. -/
  adcCh : Channel
  deriving DecidableEq, Repr

/-- The level of `DATA_BUS` the controller sees (20_memory.md R57). -/
def busLevel (r : Regs) : Nibble := if r.busEn then r.busOut else 0xF

/-- `ADC_CH` as a function of `PHASE` (10_state.md R31). -/
def adcChannel (p : Phase) : Channel :=
  match p with
  | .smpL => .light
  | .smpT => .temperature
  | .smpS => .sound
  | .idle | .wSof | .wLh | .wTl | .wTh | .wSl | .wSh | .wEnd => .noChannel

/-- `ADC_REQ` as a function of `PHASE` (10_state.md R31). -/
def adcRequest (p : Phase) : Level :=
  match p with
  | .smpL | .smpT | .smpS => true
  | .idle | .wSof | .wLh | .wTl | .wTh | .wSl | .wSh | .wEnd => false

/-- `out(s)`, from the registers alone (43_engine_step.md R172). -/
def out (r : Regs) : Output :=
  { dataBus := busLevel r
    dataReady := if r.rdyLow then .low else .released
    pin0 := r.port0
    pin1 := r.port1
    adcReq := adcRequest r.phase
    adcCh := adcChannel r.phase }

/-- One bit as a bit vector. -/
def bitOf (b : Level) : BitVec 1 := BitVec.ofBool b

/-- The input word `IN[11:0]` (30_encoding.md R89). -/
def inputWord (i : Input) : BitVec 12 :=
  i.adcVal ++ (bitOf i.adcDone ++ (bitOf i.rdyExt ++ (bitOf i.fc ++ bitOf i.att)))

/-- The inputs an input word stands for (30_encoding.md R89). -/
def inputOfWord (w : BitVec 12) : Input :=
  { att := w.getLsbD 0, fc := w.getLsbD 1, rdyExt := w.getLsbD 2, adcDone := w.getLsbD 3
    adcVal := w.extractLsb' 4 8 }

/-- The output word `OUT[9:0]` (30_encoding.md R90). -/
def outputWord (o : Output) : BitVec 10 :=
  bitOf o.pin1 ++ (bitOf o.pin0 ++ (channelCode o.adcCh ++ (bitOf o.adcReq ++
    (bitOf (o.dataReady == .low) ++ o.dataBus))))

end Sys2Proof.Machine
end

