-- ==== Sys2Proof/Machine/Stimulus.lean ====
section
/-! DEFINITION. The stimulus notation of 30_encoding.md R91: a script is a list of statements; its encoding is the list
of its input words, one per tick; its assertions are checked on the state after the last tick. -/

namespace Sys2Proof.Machine

/-- One `name=value` of an `EXPECT` line, on the registers or on `out` (30_encoding.md R91). -/
inductive Check where
  | phase (p : Phase)
  | light (v : Reading)
  | temp (v : Reading)
  | sound (v : Reading)
  | cap0 (b : Level)
  | cap1 (b : Level)
  | port0 (b : Level)
  | port1 (b : Level)
  | rdyLow (b : Level)
  | busEn (b : Level)
  | busOut (n : Nibble)
  | outWord (w : BitVec 10)
  deriving DecidableEq, Repr

/-- A statement of a script, pseudo-statements included (30_encoding.md R91). -/
inductive Stmt where
  /-- `ATT b` -/
  | att (b : Level)
  /-- `FC b` -/
  | fc (b : Level)
  /-- `RDY b` -/
  | rdy (b : Level)
  /-- `ADC v` -/
  | adc (v : Reading)
  /-- `ADC -` -/
  | adcOff
  /-- `TICK n` -/
  | tick (n : Nat)
  /-- `EXPECT name=value ...` -/
  | expect (checks : List Check)
  /-- `# ...` -/
  | comment (text : String)
  /-- `TOGGLE` is `FC (1 - fc)` and `TICK 1`. -/
  | toggle
  /-- `OPEN` is `ATT 1` and `TICK 1`. -/
  | openSession
  /-- `CLOSE` is `ATT 0` and `TICK 1`. -/
  | closeSession
  /-- `SAMPLE v` is `ADC v`, `TICK 1`, `ADC -`. -/
  | sample (v : Reading)
  deriving DecidableEq, Repr

/-- The word a script starts with: `att = 0, fc = 0, rdy_ext = 1, adc_done = 0, adc_val = 0x00` (30_encoding.md R91). -/
def scriptStart : Input := { att := false, fc := false, rdyExt := true, adcDone := false, adcVal := 0x00 }

/-- `TICK n` needs `n >= 1`; every other statement is well-formed (30_encoding.md R91). -/
def stmtWf (st : Stmt) : Bool :=
  match st with
  | .tick n => decide (1 ≤ n)
  | .att _ | .fc _ | .rdy _ | .adc _ | .adcOff | .expect _ | .comment _ | .toggle | .openSession | .closeSession
  | .sample _ => true

/-- What one statement does: the current word after it, and the words it applies (30_encoding.md R91). -/
def stmtWords (cur : Input) (st : Stmt) : Input × List Input :=
  match st with
  | .att b => ({ cur with att := b }, [])
  | .fc b => ({ cur with fc := b }, [])
  | .rdy b => ({ cur with rdyExt := b }, [])
  | .adc v => ({ cur with adcDone := true, adcVal := v }, [])
  | .adcOff => ({ cur with adcDone := false, adcVal := 0x00 }, [])
  | .tick n => (cur, List.replicate n cur)
  | .expect _ | .comment _ => (cur, [])
  | .toggle => ({ cur with fc := !cur.fc }, [{ cur with fc := !cur.fc }])
  | .openSession => ({ cur with att := true }, [{ cur with att := true }])
  | .closeSession => ({ cur with att := false }, [{ cur with att := false }])
  | .sample v => ({ cur with adcDone := false, adcVal := 0x00 }, [{ cur with adcDone := true, adcVal := v }])

/-- The inputs of a script from a current word on, one per tick. -/
def assembleFrom (cur : Input) : List Stmt → List Input
  | [] => []
  | st :: rest => (stmtWords cur st).2 ++ assembleFrom (stmtWords cur st).1 rest

/-- "The encoding of a script is the list of its `IN` words, one per tick" (30_encoding.md R91). -/
def scriptWords (script : List Stmt) : List (BitVec 12) := (assembleFrom scriptStart script).map inputWord

/-- One assertion holds in the registers. -/
def checkHolds (r : Regs) (c : Check) : Bool :=
  match c with
  | .phase p => r.phase == p
  | .light v => r.light == v
  | .temp v => r.temp == v
  | .sound v => r.sound == v
  | .cap0 b => r.cap0 == b
  | .cap1 b => r.cap1 == b
  | .port0 b => r.port0 == b
  | .port1 b => r.port1 == b
  | .rdyLow b => r.rdyLow == b
  | .busEn b => r.busEn == b
  | .busOut n => r.busOut == n
  | .outWord w => outputWord (out r) == w

/-- Applies input words to the machine, one step each; `none` if a step stops (none does, 43_engine_step.md R171). -/
def applyInputs : List Input → State → Option State
  | [], s => some s
  | i :: rest, s =>
    match step { s with inputs := i :: s.inputs } with
    | .next t => applyInputs rest t
    | .fault _ => none
    | .refused _ => none

/-- Runs a script: its words applied in order, every `EXPECT` checked where it stands (30_encoding.md R91). -/
def runScript (cur : Input) : List Stmt → State → Bool
  | [], _ => true
  | st :: rest, s =>
    match applyInputs (stmtWords cur st).2 s with
    | none => false
    | some t =>
      (match st with
        | .expect checks => checks.all (checkHolds t.regs)
        | .att _ | .fc _ | .rdy _ | .adc _ | .adcOff | .tick _ | .comment _ | .toggle | .openSession | .closeSession
        | .sample _ => true) && runScript (stmtWords cur st).1 rest t

end Sys2Proof.Machine
end

