-- ==== Sys2Proof/Machine/Table.lean ====
section
/-! DEFINITION. The transition table of 43_engine_step.md R184 as data, for the statement that the operations agree with
it. `step` does not use it. -/

namespace Sys2Proof.Machine

/-- One write of the column "Writes" (43_engine_step.md R184). -/
inductive Write where
  | lightFromAdc
  | tempFromAdc
  | soundFromAdc
  | rdyLow (b : Level)
  | busEn (b : Level)
  | busLightLo
  | busLightHi
  | busTempLo
  | busTempHi
  | busSoundLo
  | busSoundHi
  | busIdle
  | cap0FromLine
  | cap1FromLine
  | port0FromCap0
  | port1FromCap1
  deriving DecidableEq, Repr

/-- A row of the table; `none` is its `-`, an input not read. -/
structure Row where
  phase : Phase
  att : Option Level
  fc : Option Level
  adcDone : Option Level
  next : Phase
  writes : List Write
  deriving DecidableEq, Repr

/-- The writes of `Cleanup()` (40_session_controller.md R106). -/
def cleanupWrites : List Write := [.rdyLow false, .busEn false, .busIdle]

/-- Rows of `IDLE` and the sampling phases. -/
def openingRows : List Row :=
  [⟨.idle, some false, none, none, .idle, []⟩,
   ⟨.idle, some true, none, none, .smpL, []⟩,
   ⟨.smpL, none, none, some false, .smpL, []⟩,
   ⟨.smpL, none, none, some true, .smpT, [.lightFromAdc]⟩,
   ⟨.smpT, none, none, some false, .smpT, []⟩,
   ⟨.smpT, none, none, some true, .smpS, [.tempFromAdc]⟩,
   ⟨.smpS, none, none, some false, .smpS, []⟩,
   ⟨.smpS, none, none, some true, .wSof, [.soundFromAdc, .rdyLow true]⟩]

/-- Rows of `W_SOF`, `W_LH`, `W_TL`. -/
def earlyWaitRows : List Row :=
  [⟨.wSof, some false, none, none, .idle, cleanupWrites⟩,
   ⟨.wSof, some true, some false, none, .wSof, []⟩,
   ⟨.wSof, some true, some true, none, .wLh, [.busLightLo, .busEn true, .rdyLow false]⟩,
   ⟨.wLh, some false, none, none, .idle, cleanupWrites⟩,
   ⟨.wLh, some true, some true, none, .wLh, []⟩,
   ⟨.wLh, some true, some false, none, .wTl, [.busLightHi]⟩,
   ⟨.wTl, some false, none, none, .idle, cleanupWrites⟩,
   ⟨.wTl, some true, some false, none, .wTl, []⟩,
   ⟨.wTl, some true, some true, none, .wTh, [.busTempLo, .cap0FromLine]⟩]

/-- Rows of `W_TH`, `W_SL`, `W_SH`, `W_END`. -/
def lateRows : List Row :=
  [⟨.wTh, some false, none, none, .idle, cleanupWrites⟩,
   ⟨.wTh, some true, some true, none, .wTh, []⟩,
   ⟨.wTh, some true, some false, none, .wSl, [.busTempHi]⟩,
   ⟨.wSl, some false, none, none, .idle, cleanupWrites⟩,
   ⟨.wSl, some true, some false, none, .wSl, []⟩,
   ⟨.wSl, some true, some true, none, .wSh, [.busSoundLo, .cap1FromLine]⟩,
   ⟨.wSh, some false, none, none, .idle, cleanupWrites⟩,
   ⟨.wSh, some true, some true, none, .wSh, []⟩,
   ⟨.wSh, some true, some false, none, .wEnd, [.busSoundHi]⟩,
   ⟨.wEnd, some true, none, none, .wEnd, []⟩,
   ⟨.wEnd, some false, none, none, .idle, [.port0FromCap0, .port1FromCap1] ++ cleanupWrites⟩]

/-- "The table has 28 rows" (43_engine_step.md R184). -/
def transitionTable : List Row := openingRows ++ (earlyWaitRows ++ lateRows)

/-- A column's entry admits the sampled level. -/
def admits (entry : Option Level) (level : Level) : Bool :=
  match entry with
  | none => true
  | some b => b == level

/-- The row is the one for this phase and these inputs. -/
def rowApplies (i : Input) (r : Regs) (row : Row) : Bool :=
  row.phase == r.phase && (admits row.att i.att && (admits row.fc i.fc && admits row.adcDone i.adcDone))

/-- One write into `acc`; what is written is read from the registers before the tick, `r` (43_engine_step.md R170). The
table writes `rdy_ext` for the captures. -/
def applyWrite (i : Input) (r : Regs) (acc : Regs) (w : Write) : Regs :=
  match w with
  | .lightFromAdc => { acc with light := i.adcVal }
  | .tempFromAdc => { acc with temp := i.adcVal }
  | .soundFromAdc => { acc with sound := i.adcVal }
  | .rdyLow b => { acc with rdyLow := b }
  | .busEn b => { acc with busEn := b }
  | .busLightLo => { acc with busOut := BitVec.ofNat 4 (r.light.toNat % 16) }
  | .busLightHi => { acc with busOut := BitVec.ofNat 4 (r.light.toNat / 16) }
  | .busTempLo => { acc with busOut := BitVec.ofNat 4 (r.temp.toNat % 16) }
  | .busTempHi => { acc with busOut := BitVec.ofNat 4 (r.temp.toNat / 16) }
  | .busSoundLo => { acc with busOut := BitVec.ofNat 4 (r.sound.toNat % 16) }
  | .busSoundHi => { acc with busOut := BitVec.ofNat 4 (r.sound.toNat / 16) }
  | .busIdle => { acc with busOut := 0xF }
  | .cap0FromLine => { acc with cap0 := i.rdyExt }
  | .cap1FromLine => { acc with cap1 := i.rdyExt }
  | .port0FromCap0 => { acc with port0 := r.cap0 }
  | .port1FromCap1 => { acc with port1 := r.cap1 }

/-- The registers after a row. -/
def applyRow (i : Input) (r : Regs) (row : Row) : Regs :=
  { row.writes.foldl (applyWrite i r) r with phase := row.next }

end Sys2Proof.Machine
end

