-- ==== Sys2Proof/Safety.lean ====
section
/-! DEFINITION. The terms claims are stated in: runs of ticks, sessions, the invariants of 43_engine_step.md, what is
still to be read of the registers, the duties of the controller and of the collaborator (60_exceptions.md R227,
70_reset_and_hazards.md), and the smaller design that 43_engine_step.md R173 allows. `step` uses none of it. -/

namespace Sys2Proof.Machine

/-! ### Runs -/

/-- The state after one tick; `step` always answers a next state (43_engine_step.md R171). -/
def tickOf (s : State) : State :=
  match step s with
  | .next t => t
  | .fault _ => s
  | .refused _ => s

/-- The state after `n` ticks (00_scope.md R10). -/
def ticks : Nat → State → State
  | 0, s => s
  | n + 1, s => ticks n (tickOf s)

/-- `PHASE` before tick `k` of the run from `s`. -/
def phaseAt (s : State) (k : Nat) : Phase := (ticks k s).regs.phase

/-- The inputs sampled at tick `k` of the run from `s`. -/
def sampledAt (s : State) (k : Nat) : Input := (ticks k s).sampled

/-! ### Phases and sessions -/

/-- The successor of a phase in the order of 10_state.md R25; that of `W_END` is `IDLE`. -/
def nextPhase (p : Phase) : Phase :=
  match p with
  | .idle => .smpL
  | .smpL => .smpT
  | .smpT => .smpS
  | .smpS => .wSof
  | .wSof => .wLh
  | .wLh => .wTl
  | .wTl => .wTh
  | .wTh => .wSl
  | .wSl => .wSh
  | .wSh => .wEnd
  | .wEnd => .idle

/-- The position of a phase in the sequence, its code (30_encoding.md R80). -/
def phaseIndex (p : Phase) : Nat := (encode p).toNat

/-- The tick fires: it takes the phase's transition to its successor (00_scope.md R13). An abandonment is no firing. -/
def fires (s : State) : Bool := (tickOf s).regs.phase == nextPhase s.regs.phase

/-- A session is open from `s` on for `n` ticks, `PHASE != IDLE` throughout (00_scope.md R12). -/
def inSession (s : State) (n : Nat) : Prop := ∀ k, k ≤ n → phaseAt s k ≠ .idle

/-- How many of the first `n` ticks are firings of phase `p`. -/
def firingCount (p : Phase) : Nat → State → Nat
  | 0, _ => 0
  | n + 1, s => (if s.regs.phase == p && fires s then 1 else 0) + firingCount p n (tickOf s)

/-- The condition that ends the hold of a phase (43_engine_step.md R185). -/
def liftedBy (p : Phase) (i : Input) : Bool :=
  match p with
  | .idle => i.att
  | .smpL | .smpT | .smpS => i.adcDone
  | .wSof | .wTl | .wSl => !i.att || i.fc
  | .wLh | .wTh | .wSh => !i.att || !i.fc
  | .wEnd => !i.att

/-! ### Nibbles -/

/-- The nibble placed by a tick: what a firing wait phase leaves on `BUS_OUT` (42_nibble_sequencer.md R140). -/
def placed (s : State) : List Nibble :=
  if isWait s.regs.phase && fires s then [(tickOf s).regs.busOut] else []

/-- The nibbles placed by the first `n` ticks, in order. -/
def nibblesPlaced : Nat → State → List Nibble
  | 0, _ => []
  | n + 1, s => placed s ++ nibblesPlaced n (tickOf s)

/-- The frame of six nibbles, in the source's `(v & 0xF, v >> 4)` (30_encoding.md R82, 43_engine_step.md R175). -/
def frameOf (light temp sound : Reading) : List Nibble :=
  [(light &&& 0x0F).setWidth 4, (light >>> 4).setWidth 4, (temp &&& 0x0F).setWidth 4, (temp >>> 4).setWidth 4,
   (sound &&& 0x0F).setWidth 4, (sound >>> 4).setWidth 4]

/-- How many nibbles a session has placed when it is in the given phase (30_encoding.md R82). -/
def placedBefore (p : Phase) : Nat :=
  match p with
  | .idle | .smpL | .smpT | .smpS | .wSof => 0
  | .wLh => 1
  | .wTl => 2
  | .wTh => 3
  | .wSl => 4
  | .wSh => 5
  | .wEnd => 6

/-- The nibble the bus holds while `PHASE` is the given one, none before the first (43_engine_step.md R173). -/
def heldNibble (r : Regs) : Option Nibble :=
  match r.phase with
  | .idle | .smpL | .smpT | .smpS | .wSof => none
  | .wLh => some (lo r.light)
  | .wTl => some (hi r.light)
  | .wTh => some (lo r.temp)
  | .wSl => some (hi r.temp)
  | .wSh => some (lo r.sound)
  | .wEnd => some (hi r.sound)

/-! ### Invariants -/

/-- The pin-control registers are the function of `PHASE` and the SensorFrame that 43_engine_step.md R173 tabulates. -/
abbrev pinsMatchPhase (r : Regs) : Prop :=
  r.rdyLow = (r.phase == .wSof) ∧ r.busEn = (heldNibble r).isSome ∧ r.busOut = (heldNibble r).getD 0xF

/-- The idle invariant: `PHASE = IDLE` implies both lines released (40_session_controller.md R108). -/
abbrev idleReleased (r : Regs) : Prop :=
  r.phase = .idle → r.rdyLow = false ∧ r.busEn = false ∧ r.busOut = 0xF

/-! ### Written before read (43_engine_step.md R178) -/

/-- `LIGHT` was written in this session and is still to be read. -/
def lightLive (p : Phase) : Bool :=
  match p with
  | .smpT | .smpS | .wSof | .wLh => true
  | .idle | .smpL | .wTl | .wTh | .wSl | .wSh | .wEnd => false

/-- `TEMP` was written in this session and is still to be read. -/
def tempLive (p : Phase) : Bool :=
  match p with
  | .smpS | .wSof | .wLh | .wTl | .wTh => true
  | .idle | .smpL | .smpT | .wSl | .wSh | .wEnd => false

/-- `SOUND` was written in this session and is still to be read. -/
def soundLive (p : Phase) : Bool :=
  match p with
  | .wSof | .wLh | .wTl | .wTh | .wSl | .wSh => true
  | .idle | .smpL | .smpT | .smpS | .wEnd => false

/-- `CAP0` was written in this session and is still to be read. -/
def cap0Live (p : Phase) : Bool :=
  match p with
  | .wTh | .wSl | .wSh | .wEnd => true
  | .idle | .smpL | .smpT | .smpS | .wSof | .wLh | .wTl => false

/-- `CAP1` was written in this session and is still to be read. -/
def cap1Live (p : Phase) : Bool :=
  match p with
  | .wSh | .wEnd => true
  | .idle | .smpL | .smpT | .smpS | .wSof | .wLh | .wTl | .wTh | .wSl => false

/-- Two register files that differ at most in values no rule will read before it rewrites them. -/
structure AgreeOnLive (a b : Regs) : Prop where
  phase : a.phase = b.phase
  port0 : a.port0 = b.port0
  port1 : a.port1 = b.port1
  rdyLow : a.rdyLow = b.rdyLow
  busEn : a.busEn = b.busEn
  busOut : a.busOut = b.busOut
  light : lightLive a.phase = true → a.light = b.light
  temp : tempLive a.phase = true → a.temp = b.temp
  sound : soundLive a.phase = true → a.sound = b.sound
  cap0 : cap0Live a.phase = true → a.cap0 = b.cap0
  cap1 : cap1Live a.phase = true → a.cap1 = b.cap1

/-- The six registers to which 10_state.md R40 gives a value at reset hold it; the other five it leaves unspecified. -/
def specifiedAtReset (r : Regs) : Prop :=
  r.phase = .idle ∧ r.rdyLow = false ∧ r.busEn = false ∧ r.busOut = 0b1111 ∧
  r.port0 = Config.portReset.getLsbD 0 ∧ r.port1 = Config.portReset.getLsbD 1

/-- The reset registers with other values in the five registers R40 leaves unspecified (10_state.md R40). -/
def resetWithData (light temp sound : Reading) (cap0 cap1 : Level) : Regs :=
  { Regs.reset Config.portReset with light := light, temp := temp, sound := sound, cap0 := cap0, cap1 := cap1 }

/-! ### Which inputs a phase reads (10_state.md R36) -/

/-- The two inputs agree on everything the phase reads, in the state `r`. -/
def agreeOnRead (p : Phase) (i j : Input) : Prop :=
  match p with
  | .idle | .wEnd => i.att = j.att
  | .smpL | .smpT | .smpS => i.adcDone = j.adcDone ∧ (i.adcDone = true → i.adcVal = j.adcVal)
  | .wSof | .wLh | .wTh | .wSh => i.att = j.att ∧ i.fc = j.fc
  | .wTl | .wSl => i.att = j.att ∧ i.fc = j.fc ∧ (i.att = true → i.fc = true → i.rdyExt = j.rdyExt)

/-! ### Duties, over the session that is open from `s` on (assumption 21) -/

/-- A call of the collaborator begins at tick `k`: `ADC_CH` is a channel it was not at the tick before
(60_exceptions.md R226). -/
def callBegins (s : State) (k : Nat) : Prop :=
  adcRequest (phaseAt s k) = true ∧ ∀ j, j + 1 = k → phaseAt s j ≠ phaseAt s k

/-- Every call of the session is answered after at most `m` ticks of waiting (60_exceptions.md R227 (a); `m = 0` is the
instantaneous collaborator of 41_sampling.md R120, assumption 6). -/
def answersWithin (m : Nat) (s : State) : Prop :=
  ∀ k, inSession s k → callBegins s k → ∃ j, j ≤ m ∧ (sampledAt s (k + j)).adcDone = true

/-- Every call of the session is answered (60_exceptions.md R227 (a), latency unbounded but finite). -/
def answersEventually (s : State) : Prop :=
  ∀ k, inSession s k → callBegins s k → ∃ j, (sampledAt s (k + j)).adcDone = true

/-- The collaborator's liveness duty at the machine's own `ADC_LATENCY_MAX` (60_exceptions.md R227 (a)). -/
def collaboratorDuty (s : State) : Prop :=
  match Config.adcLatencyMax with
  | some m => answersWithin m s
  | none => answersEventually s

/-- `FRAME_CLOCK` is deasserted while sampling and until `DATA_READY` has gone low (70_reset_and_hazards.md R251). -/
def clockIdleDuty (s : State) : Prop :=
  ∀ k, inSession s k → adcRequest (phaseAt s k) = true → (sampledAt s k).fc = false

/-- The level of `FRAME_CLOCK` a wait phase waits for comes, and is there at a tick (70_reset_and_hazards.md R252,
R250 row 9). -/
def toggleDuty (s : State) : Prop :=
  ∀ k, inSession s k → isWait (phaseAt s k) = true → ∃ j, go (phaseAt s k) (sampledAt s (k + j)) = true

/-- The output bits are on `DATA_READY` at the two windows (70_reset_and_hazards.md R253). -/
def outputBitsDuty (bit0 bit1 : Level) (s : State) : Prop :=
  ∀ k, inSession s k → (sampledAt s k).fc = true →
    (phaseAt s k = .wTl → (sampledAt s k).rdyExt = bit0) ∧ (phaseAt s k = .wSl → (sampledAt s k).rdyExt = bit1)

/-- `ATTENTION` is asserted until the sixth nibble is placed, then it is deasserted (70_reset_and_hazards.md R254). -/
def attentionDuty (s : State) : Prop :=
  ∀ k, inSession s k →
    (isWait (phaseAt s k) = true → (sampledAt s k).att = true) ∧
    (phaseAt s k = .wEnd → ∃ j, (sampledAt s (k + j)).att = false)

/-- The controller releases `DATA_READY` while the peripheral signals on it (70_reset_and_hazards.md R257). -/
def releaseDuty (s : State) : Prop :=
  ∀ k, inSession s k → (adcRequest (phaseAt s k) = true ∨ phaseAt s k = .wSof) → (sampledAt s k).rdyExt = true

/-- The eleven inputs of the shortest session: open, three samples, six levels of `FRAME_CLOCK` with the output bits in
the two windows, close (43_engine_step.md R183, 95_test_vectors.md V1). -/
def shortSession (light temp sound : Reading) (bit0 bit1 : Level) : List Input :=
  [⟨true, false, true, false, 0⟩, ⟨true, false, true, true, light⟩, ⟨true, false, true, true, temp⟩,
   ⟨true, false, true, true, sound⟩, ⟨true, true, true, false, 0⟩, ⟨true, false, true, false, 0⟩,
   ⟨true, true, bit0, false, 0⟩, ⟨true, false, true, false, 0⟩, ⟨true, true, bit1, false, 0⟩,
   ⟨true, false, true, false, 0⟩, ⟨false, false, true, false, 0⟩]

/-! ### The design without pin-control registers (43_engine_step.md R173: "or may drop the three pin-control
registers and compute them from `PHASE`; both give the same `out`") -/

/-- The eight registers of the smaller design. -/
structure Slim where
  phase : Phase
  light : Reading
  temp : Reading
  sound : Reading
  cap0 : Level
  cap1 : Level
  port0 : Level
  port1 : Level
  deriving DecidableEq, Repr

/-- What the smaller design keeps of the registers. -/
def slimOf (r : Regs) : Slim :=
  ⟨r.phase, r.light, r.temp, r.sound, r.cap0, r.cap1, r.port0, r.port1⟩

/-- The smaller design's tick: the phase moves, the data registers are written, no pin register exists. -/
def slimTick (i : Input) (m : Slim) : Slim :=
  if isWait m.phase && !i.att then { m with phase := .idle }
  else if liftedBy m.phase i then
    match m.phase with
    | .smpL => { m with phase := .smpT, light := i.adcVal }
    | .smpT => { m with phase := .smpS, temp := i.adcVal }
    | .smpS => { m with phase := .wSof, sound := i.adcVal }
    | .wTl => { m with phase := .wTh, cap0 := i.rdyExt }
    | .wSl => { m with phase := .wSh, cap1 := i.rdyExt }
    | .wEnd => { m with phase := .idle, port0 := m.cap0, port1 := m.cap1 }
    | .idle | .wSof | .wLh | .wTh | .wSh => { m with phase := nextPhase m.phase }
  else m

/-- The smaller design's outputs, the levels computed from `PHASE` and the SensorFrame. -/
def slimOut (m : Slim) : Output :=
  { dataBus :=
      match m.phase with
      | .idle | .smpL | .smpT | .smpS | .wSof => 0xF
      | .wLh => lo m.light
      | .wTl => hi m.light
      | .wTh => lo m.temp
      | .wSl => hi m.temp
      | .wSh => lo m.sound
      | .wEnd => hi m.sound
    dataReady := if m.phase == .wSof then .low else .released
    pin0 := m.port0
    pin1 := m.port1
    adcReq := adcRequest m.phase
    adcCh := adcChannel m.phase }

/-- The smaller design after `n` ticks on the inputs the big one samples from `s` on. -/
def slimAfter (s : State) : Nat → Slim
  | 0 => slimOf s.regs
  | n + 1 => slimTick (sampledAt s n) (slimAfter s n)

end Sys2Proof.Machine
end

