-- ==== Sys2Proof/Certificates/Slice0/Obligations.lean ====
section
/-! DEFINITION. The statements for the provers, from the numbered rules of spec/. Where a rule carries the spec's own
decision or derivation the docstring names it. No statement rests on the values the model names for the registers the
spec leaves unspecified at reset, or on a value of a constant of Config. -/

open Sys2Proof Sys2Proof.Machine

/-! ### Encoding and fetch -/

/-- When the code in `PHASE` decodes to `i`, the step is `i` performed on the state, then the end of the tick: one list
entry of inputs used up, the tick counted (00_scope.md R7, 30_encoding.md R80; the end of the tick is the model's own,
log entry 11). -/
def Obligations.StepPerformsTheOperationInPhase : Prop :=
  ∀ (s : State) (i : Instr), decode (encode s.regs.phase) = .ok i → i.wf = true →
    step s = match exec i s with
      | .next t => .next { regs := t.regs, inputs := t.inputs.tail, tick := t.tick + 1 }
      | .fault r => .fault r
      | .refused r => .refused r

/-- The word of every operation of the opcode table puts that operation in `PHASE` and changes nothing else, and every word
from 11 up, which is no operation, changes nothing (30_encoding.md R80, R81, decision D12; log entries 8, 9). -/
def Obligations.TableWordsSelectTheirOperations : Prop :=
  ∀ s : State,
    (∀ i : Instr, (s.withFetchWord 8 (encode i).toNat).fetch = i ∧
      s.withFetchWord 8 (encode i).toNat = { s with regs := { s.regs with phase := i } }) ∧
    (∀ w : Nat, 11 ≤ w → s.withFetchWord 8 w = s)

/-- Decoding and encoding agree both ways, and exactly the codes 0 to 10 are operations (30_encoding.md R80, R81,
decision D12). -/
def Obligations.CodesRoundTrip : Prop :=
  (∀ i : Instr, decode (encode i) = .ok i ∧ decodeBytes [encodeByte i] = .ok i) ∧
  (∀ (c : BitVec 4) (i : Instr), decode c = .ok i → encode i = c) ∧
  (∀ c : BitVec 4, (∃ i, decode c = .ok i) ↔ c.toNat ≤ 10) ∧
  (∀ c : BitVec 4, 10 < c.toNat → decode c = .error (.reservedCode c))

/-! ### What each operation does -/

/-- `IDLE`: a session opens at `att = 1`, else it stays; nothing else is written (40_session_controller.md R101,
decisions D2, D14). -/
def Obligations.IdleOpensASessionAtAttention : Prop :=
  ∀ s : State,
    (s.sampled.att = true → exec .idle s = .next { s with regs := { s.regs with phase := .smpL } }) ∧
    (s.sampled.att = false → exec .idle s = .next s)

/-- `SMP_L`: the answered sample is latched in `LIGHT`, whatever `att` is (41_sampling.md R121, decision D8). -/
def Obligations.SampleLightLatchesLight : Prop :=
  ∀ s : State,
    (s.sampled.adcDone = true →
      exec .smpL s = .next { s with regs := { s.regs with light := s.sampled.adcVal, phase := .smpT } }) ∧
    (s.sampled.adcDone = false → exec .smpL s = .next s)

/-- `SMP_T`: the answered sample is latched in `TEMP` (41_sampling.md R122, decision D8). -/
def Obligations.SampleTemperatureLatchesTemp : Prop :=
  ∀ s : State,
    (s.sampled.adcDone = true →
      exec .smpT s = .next { s with regs := { s.regs with temp := s.sampled.adcVal, phase := .smpS } }) ∧
    (s.sampled.adcDone = false → exec .smpT s = .next s)

/-- `SMP_S`: the answered sample is latched in `SOUND` and `DATA_READY` is pulled low (41_sampling.md R123, decisions D4,
D10). -/
def Obligations.SampleSoundLatchesSoundAndPullsReadyLow : Prop :=
  ∀ s : State,
    (s.sampled.adcDone = true →
      exec .smpS s =
        .next { s with regs := { s.regs with sound := s.sampled.adcVal, rdyLow := true, phase := .wSof } }) ∧
    (s.sampled.adcDone = false → exec .smpS s = .next s)

/-- `W_SOF`: light-lo on the bus and `DATA_READY` released at `fc = 1` (42_nibble_sequencer.md R141, decisions D4, D6,
D10). -/
def Obligations.StartOfFramePlacesLightLow : Prop :=
  ∀ s : State,
    (s.sampled.att = true → s.sampled.fc = true →
      exec .wSof s = .next { s with regs := { s.regs with
        busOut := (s.regs.light &&& 0x0F).setWidth 4, busEn := true, rdyLow := false, phase := .wLh } }) ∧
    (s.sampled.att = true → s.sampled.fc = false → exec .wSof s = .next s) ∧
    (s.sampled.att = false →
      exec .wSof s =
        .next { s with regs := { s.regs with rdyLow := false, busEn := false, busOut := 0xF, phase := .idle } })

/-- `W_LH`: light-hi on the bus at `fc = 0` (42_nibble_sequencer.md R143). -/
def Obligations.LightHighIsPlacedAtClockLow : Prop :=
  ∀ s : State,
    (s.sampled.att = true → s.sampled.fc = false →
      exec .wLh s = .next { s with regs := { s.regs with
        busOut := (s.regs.light >>> 4).setWidth 4, busEn := true, phase := .wTl } }) ∧
    (s.sampled.att = true → s.sampled.fc = true → exec .wLh s = .next s) ∧
    (s.sampled.att = false →
      exec .wLh s =
        .next { s with regs := { s.regs with rdyLow := false, busEn := false, busOut := 0xF, phase := .idle } })

/-- `W_TL`: temp-lo on the bus and the level of `DATA_READY` captured in `CAP0` at `fc = 1`; an abandonment captures
nothing (42_nibble_sequencer.md R144, decisions D5, D10). -/
def Obligations.TempLowIsPlacedAndPort0Captured : Prop :=
  ∀ s : State,
    (s.sampled.att = true → s.sampled.fc = true →
      exec .wTl s = .next { s with regs := { s.regs with
        busOut := (s.regs.temp &&& 0x0F).setWidth 4, busEn := true,
        cap0 := s.sampled.rdyExt && !s.regs.rdyLow, phase := .wTh } }) ∧
    (s.sampled.att = true → s.sampled.fc = false → exec .wTl s = .next s) ∧
    (s.sampled.att = false →
      exec .wTl s =
        .next { s with regs := { s.regs with rdyLow := false, busEn := false, busOut := 0xF, phase := .idle } })

/-- `W_TH`: temp-hi on the bus at `fc = 0` (42_nibble_sequencer.md R145). -/
def Obligations.TempHighIsPlacedAtClockLow : Prop :=
  ∀ s : State,
    (s.sampled.att = true → s.sampled.fc = false →
      exec .wTh s = .next { s with regs := { s.regs with
        busOut := (s.regs.temp >>> 4).setWidth 4, busEn := true, phase := .wSl } }) ∧
    (s.sampled.att = true → s.sampled.fc = true → exec .wTh s = .next s) ∧
    (s.sampled.att = false →
      exec .wTh s =
        .next { s with regs := { s.regs with rdyLow := false, busEn := false, busOut := 0xF, phase := .idle } })

/-- `W_SL`: sound-lo on the bus and the level of `DATA_READY` captured in `CAP1` at `fc = 1` (42_nibble_sequencer.md
R146, decisions D5, D10). -/
def Obligations.SoundLowIsPlacedAndPort1Captured : Prop :=
  ∀ s : State,
    (s.sampled.att = true → s.sampled.fc = true →
      exec .wSl s = .next { s with regs := { s.regs with
        busOut := (s.regs.sound &&& 0x0F).setWidth 4, busEn := true,
        cap1 := s.sampled.rdyExt && !s.regs.rdyLow, phase := .wSh } }) ∧
    (s.sampled.att = true → s.sampled.fc = false → exec .wSl s = .next s) ∧
    (s.sampled.att = false →
      exec .wSl s =
        .next { s with regs := { s.regs with rdyLow := false, busEn := false, busOut := 0xF, phase := .idle } })

/-- `W_SH`: sound-hi on the bus at `fc = 0`; `att = 0` in the same tick abandons the session, neither capture committed
(42_nibble_sequencer.md R147). -/
def Obligations.SoundHighIsPlacedAtClockLow : Prop :=
  ∀ s : State,
    (s.sampled.att = true → s.sampled.fc = false →
      exec .wSh s = .next { s with regs := { s.regs with
        busOut := (s.regs.sound >>> 4).setWidth 4, busEn := true, phase := .wEnd } }) ∧
    (s.sampled.att = true → s.sampled.fc = true → exec .wSh s = .next s) ∧
    (s.sampled.att = false →
      exec .wSh s =
        .next { s with regs := { s.regs with rdyLow := false, busEn := false, busOut := 0xF, phase := .idle } })

/-- `W_END`: at `att = 0` commit, cleanup and `IDLE` in one transition (40_session_controller.md R103, R104, R106,
decision D11). -/
def Obligations.SessionEndCommitsAndReleases : Prop :=
  ∀ s : State,
    (s.sampled.att = false →
      exec .wEnd s = .next { s with regs := { s.regs with
        port0 := s.regs.cap0, port1 := s.regs.cap1, rdyLow := false, busEn := false, busOut := 0xF,
        phase := .idle } }) ∧
    (s.sampled.att = true → exec .wEnd s = .next s)

/-! ### What an operation leaves alone -/

/-- The frame of all eleven operations, the column "Written in phase" of 10_state.md R20 (decisions D1, D12, D13): a
register changes only in the phases the table names; a pin-control register outside them only by the cleanup of an
abandonment or of the session's end; no operation changes the inputs to come or the tick count. `BusDrive` of the wait
phases after `W_SOF` sets `BUS_EN` again (20_memory.md R53): it can only become 1 there, and where the pin invariant of
43_engine_step.md R173 holds it is 1 already and does not change. -/
def Obligations.EachRegisterIsWrittenOnlyByItsPhases : Prop :=
  ∀ (op : Instr) (s t : State), exec op s = .next t →
    t.inputs = s.inputs ∧ t.tick = s.tick ∧
    (op ≠ .smpL → t.regs.light = s.regs.light) ∧
    (op ≠ .smpT → t.regs.temp = s.regs.temp) ∧
    (op ≠ .smpS → t.regs.sound = s.regs.sound) ∧
    (op ≠ .wTl → t.regs.cap0 = s.regs.cap0) ∧
    (op ≠ .wSl → t.regs.cap1 = s.regs.cap1) ∧
    (op ≠ .wEnd → t.regs.port0 = s.regs.port0 ∧ t.regs.port1 = s.regs.port1) ∧
    (op ∈ [Instr.idle, .smpL, .smpT] → t.regs.rdyLow = s.regs.rdyLow) ∧
    (op ∈ [Instr.wLh, .wTl, .wTh, .wSl, .wSh, .wEnd] → s.sampled.att = true → t.regs.rdyLow = s.regs.rdyLow) ∧
    (op ∈ [Instr.idle, .smpL, .smpT, .smpS] →
      t.regs.busEn = s.regs.busEn ∧ t.regs.busOut = s.regs.busOut) ∧
    (op = .wEnd → s.sampled.att = true → t.regs.busEn = s.regs.busEn ∧ t.regs.busOut = s.regs.busOut) ∧
    (op ∈ [Instr.wLh, .wTl, .wTh, .wSl, .wSh] → s.sampled.att = true →
      (s.regs.busEn = true → t.regs.busEn = true) ∧
      (pinsMatchPhase s.regs → op = s.regs.phase → t.regs.busEn = s.regs.busEn)) ∧
    (t.regs.phase = s.regs.phase → op = s.regs.phase → t = s)

/-- An input a phase does not read has no effect in that phase: two inputs that agree on what the phase reads give the
same next state (10_state.md R36, decision D23; 41_sampling.md R124 for `att` while sampling). -/
def Obligations.UnreadInputsHaveNoEffect : Prop :=
  ∀ (s t u : State) (i j : Input) (rest : List Input), agreeOnRead s.regs.phase i j →
    step { s with inputs := i :: rest } = .next t → step { s with inputs := j :: rest } = .next u → t = u

/-! ### The whole step -/

/-- The step agrees with the 28-row table of 43_engine_step.md R184 (derived there from R170): exactly one row applies,
and the registers after the tick are those the row writes. Where the row has `rdy_ext` or omits `BUS_EN`, the spec
relies on the pin invariant of R173, so it is a premise. -/
def Obligations.StepFollowsTheTransitionTable : Prop :=
  ∀ s : State, pinsMatchPhase s.regs →
    ∃ row, transitionTable.filter (rowApplies s.sampled s.regs) = [row] ∧
      step s = .next
        { regs := applyRow s.sampled s.regs row, inputs := s.inputs.tail, tick := s.tick + 1 }

/-- The step is total: every operation and every step answers a next state, and a run of any length goes on
(43_engine_step.md R171). -/
def Obligations.StepAlwaysAnswersANextState : Prop :=
  (∀ (op : Instr) (s : State), ∃ t, exec op s = .next t) ∧
  (∀ s : State, ∃ t, step s = .next t) ∧
  (∀ (n : Nat) (s : State), Host.Core.run Sys2Proof.core n s = .next (ticks n s))

/-- `PHASE` keeps its value, goes to its successor, or goes to `IDLE` by one of the two exits; while it stays, nothing
changes (10_state.md R25). -/
def Obligations.PhaseAdvancesStaysOrReturnsToIdle : Prop :=
  ∀ s t : State, step s = .next t →
    (t.regs.phase = s.regs.phase ∧ t.regs = s.regs) ∨
    (s.regs.phase ≠ .wEnd ∧ t.regs.phase = nextPhase s.regs.phase) ∨
    (t.regs.phase = .idle ∧ s.sampled.att = false ∧
      s.regs.phase ∈ [Instr.wSof, .wLh, .wTl, .wTh, .wSl, .wSh, .wEnd])

/-- A hold ends exactly at a tick whose inputs lift it, and without such a tick it lasts for ever with no register
changed (43_engine_step.md R185). -/
def Obligations.HoldLastsUntilItIsLifted : Prop :=
  ∀ s : State,
    (∀ t, step s = .next t → (t.regs.phase ≠ s.regs.phase ↔ liftedBy s.regs.phase s.sampled = true)) ∧
    (∀ n, (∀ k, k < n → liftedBy s.regs.phase (sampledAt s k) = false) → (ticks n s).regs = s.regs)

/-! ### The exits of a session -/

/-- Outside `W_END` a session returns to `IDLE` at exactly the ticks where `PHASE` is a wait phase and `att = 0` is
sampled, whatever `fc` is (60_exceptions.md R202, R210), and then the cleanup is the whole transition: no nibble, no
capture, no port (R204, the spec's decision D11, log entry 16). -/
def Obligations.AbandonIsRaisedExactlyInWaitPhases : Prop :=
  ∀ s t : State, step s = .next t →
    ((s.regs.phase ≠ .idle ∧ s.regs.phase ≠ .wEnd ∧ t.regs.phase = .idle) ↔
      (s.regs.phase ∈ [Instr.wSof, .wLh, .wTl, .wTh, .wSl, .wSh] ∧ s.sampled.att = false)) ∧
    (s.regs.phase ∈ [Instr.wSof, .wLh, .wTl, .wTh, .wSl, .wSh] → s.sampled.att = false →
      t.regs = { s.regs with rdyLow := false, busEn := false, busOut := 0xF, phase := .idle })

/-- A session ends in one of two ways: the normal exit commits, the abandonment does not, both clean up, and there is no
third exit (40_session_controller.md R105). -/
def Obligations.ASessionHasTwoExits : Prop :=
  ∀ s t : State, step s = .next t → s.regs.phase ≠ .idle → t.regs.phase = .idle →
    (s.regs.phase = .wEnd ∧ s.sampled.att = false ∧
      t.regs = { s.regs with port0 := s.regs.cap0, port1 := s.regs.cap1, rdyLow := false, busEn := false,
                             busOut := 0xF, phase := .idle }) ∨
    (s.regs.phase ∈ [Instr.wSof, .wLh, .wTl, .wTh, .wSl, .wSh] ∧ s.sampled.att = false ∧
      t.regs = { s.regs with rdyLow := false, busEn := false, busOut := 0xF, phase := .idle })

/-- No overlapping sessions: the tick that ends a session sampled `att = 0` and leaves both lines released and no sample
requested; a new session can open no earlier than the next tick (40_session_controller.md, R101 corner case (b) and
R107). -/
def Obligations.SessionsDoNotOverlap : Prop :=
  ∀ s t u : State, step s = .next t → step t = .next u → s.regs.phase ≠ .idle → t.regs.phase = .idle →
    s.sampled.att = false ∧ (out t.regs).dataBus = 0xF ∧ (out t.regs).dataReady = .released ∧
    (out t.regs).adcReq = false ∧ (u.regs.phase = .smpL ↔ t.sampled.att = true) ∧
    (u.regs.phase = .idle ↔ t.sampled.att = false) ∧ out u.regs = { out t.regs with
      adcReq := t.sampled.att, adcCh := if t.sampled.att then .light else .noChannel }

/-- `ATTENTION` withdrawn during sampling: the last sample is still taken and `DATA_READY` still pulled low, for one tick;
the first tick of `W_SOF` abandons and releases it, and no port changes (41_sampling.md R123 corner case (a), R124;
decisions D4, D9, D10). -/
def Obligations.WithdrawalDuringSamplingGivesALowPulse : Prop :=
  ∀ (s : State) (i j : Input) (rest : List Input), s.regs.phase = .smpS → s.inputs = i :: j :: rest →
    i.adcDone = true → i.att = false → j.att = false →
    ∃ t u, step s = .next t ∧ step t = .next u ∧
      t.regs.phase = .wSof ∧ t.regs.sound = i.adcVal ∧ (out t.regs).dataReady = .low ∧
      u.regs.phase = .idle ∧ (out u.regs).dataReady = .released ∧ (out u.regs).dataBus = 0xF ∧
      (out u.regs).pin0 = (out s.regs).pin0 ∧ (out u.regs).pin1 = (out s.regs).pin1 ∧ u.inputs = rest

/-! ### Reset and invariants -/

/-- At reset, and after a power cycle whatever was before it, the six registers to which 10_state.md R40 and
70_reset_and_hazards.md R240 give a value hold it (decision D13), and the pin invariant holds. Nothing is said of `LIGHT`,
`TEMP`, `SOUND`, `CAP0`, `CAP1`, which those rules leave unspecified. The model's choices in it: `PORT_RESET` is one
uninterpreted constant, the same at every power-up (log entry 4), and a power cycle is an operation outside `step` (log
entry 19). -/
def Obligations.ResetReleasesTheLines : Prop :=
  (specifiedAtReset State.reset.regs ∧ pinsMatchPhase State.reset.regs) ∧
  ∀ s : State, specifiedAtReset s.powerCycle.regs ∧ pinsMatchPhase s.powerCycle.regs

/-- Every step keeps the idle invariant: in `IDLE` both lines are released (40_session_controller.md R108, decision
D22). -/
def Obligations.StepKeepsTheIdleInvariant : Prop :=
  ∀ s t : State, idleReleased s.regs → step s = .next t → idleReleased t.regs

/-- Every step, from every state in which it holds, keeps the pin-control registers the function of `PHASE` and the
SensorFrame that 43_engine_step.md R173 tabulates (derived there). -/
def Obligations.StepKeepsPinsAFunctionOfPhase : Prop :=
  ∀ s t : State, pinsMatchPhase s.regs → step s = .next t → pinsMatchPhase t.regs

/-! ### Outputs and words -/

/-- The output function, read off the output word: every bit of `OUT[9:0]` is what 30_encoding.md R90 and
43_engine_step.md R172 say, a channel is selected exactly while a sample is requested (R86), every bit of `IN[11:0]` is
the input R89 says, and the input word reads back (decisions D1, D7, D8, D17). -/
def Obligations.OutputAndInputWordsShowTheirFields : Prop :=
  (∀ r : Regs,
    (outputWord (out r)).extractLsb' 0 4 = (if r.busEn = true then r.busOut else 0b1111) ∧
    (outputWord (out r)).getLsbD 4 = r.rdyLow ∧
    ((outputWord (out r)).getLsbD 5 = true ↔ r.phase ∈ [Instr.smpL, .smpT, .smpS]) ∧
    (outputWord (out r)).extractLsb' 6 2 =
      (if r.phase = .smpL then 0 else if r.phase = .smpT then 1 else if r.phase = .smpS then 2 else 3) ∧
    (outputWord (out r)).getLsbD 8 = r.port0 ∧ (outputWord (out r)).getLsbD 9 = r.port1 ∧
    ((out r).adcReq = true ↔ (out r).adcCh ≠ .noChannel)) ∧
  (∀ i : Input,
    (inputWord i).getLsbD 0 = i.att ∧ (inputWord i).getLsbD 1 = i.fc ∧ (inputWord i).getLsbD 2 = i.rdyExt ∧
    (inputWord i).getLsbD 3 = i.adcDone ∧ (inputWord i).extractLsb' 4 8 = i.adcVal) ∧
  (∀ i : Input, inputOfWord (inputWord i) = i) ∧ (∀ w : BitVec 12, inputWord (inputOfWord w) = w)

/-- The pseudo-statements of the script notation expand as 30_encoding.md R91 says (decision D17), wherever they stand
in a script: `TOGGLE`, `OPEN`, `CLOSE`, `SAMPLE v`; a script's words are those of its parts in order. -/
def Obligations.ScriptPseudoStatementsExpand : Prop :=
  ∀ (cur : Input) (rest : List Stmt) (v : Reading) (n : Nat),
    assembleFrom cur (.toggle :: rest) = assembleFrom cur (.fc (!cur.fc) :: .tick 1 :: rest) ∧
    assembleFrom cur (.openSession :: rest) = assembleFrom cur (.att true :: .tick 1 :: rest) ∧
    assembleFrom cur (.closeSession :: rest) = assembleFrom cur (.att false :: .tick 1 :: rest) ∧
    assembleFrom cur (.sample v :: rest) = assembleFrom cur (.adc v :: .tick 1 :: .adcOff :: rest) ∧
    assembleFrom cur (.tick (n + 1) :: rest) = assembleFrom cur (.tick n :: .tick 1 :: rest)

/-- On the words of a script the machine takes one step each and never stops, and the state after them is the state
after that many ticks on those inputs (30_encoding.md R91, 43_engine_step.md R171; decision D17). -/
def Obligations.ScriptWordsAreOneTickEach : Prop :=
  ∀ (cur : Input) (script : List Stmt) (s : State), ∃ t,
    applyInputs (assembleFrom cur script) s = some t ∧ t.inputs = s.inputs ∧
    t.tick = s.tick + (assembleFrom cur script).length ∧
    t = ticks (assembleFrom cur script).length { s with inputs := assembleFrom cur script ++ s.inputs }

/-! ### Written before read -/

/-- Two states that differ at most in values still to be rewritten before they are read stay so and show the same
outputs (43_engine_step.md R178, derived there). -/
def Obligations.StaleDataIsNeverObserved : Prop :=
  ∀ s t s' t' : State, AgreeOnLive s.regs t.regs → s.inputs = t.inputs → s.tick = t.tick →
    step s = .next s' → step t = .next t' →
    AgreeOnLive s'.regs t'.regs ∧ s'.inputs = t'.inputs ∧ s'.tick = t'.tick ∧ out s'.regs = out t'.regs

/-- "No run can tell their reset value": whatever `LIGHT`, `TEMP`, `SOUND`, `CAP0`, `CAP1` hold after reset, every run on
the same inputs shows the same outputs at every tick (10_state.md R40, decision D13; 43_engine_step.md R178). -/
def Obligations.UnspecifiedResetValuesAreUnobservable : Prop :=
  ∀ (inputs : List Input) (tick n : Nat) (l l' t t' s s' : Reading) (c c' d d' : Level),
    out (ticks n ⟨resetWithData l t s c d, inputs, tick⟩).regs =
      out (ticks n ⟨resetWithData l' t' s' c' d', inputs, tick⟩).regs

/-! ### Sessions -/

/-- Six nibbles in order: at every moment of a session the nibbles placed so far are the beginning of the frame
`(v & 0xF, v >> 4)` of light, temperature, sound, as long as the phase says; in `W_END` all six (43_engine_step.md R175,
derived there; 30_encoding.md R82). -/
def Obligations.SessionPlacesTheFrameInOrder : Prop :=
  ∀ (s : State) (n : Nat), s.regs.phase = .smpL → inSession s n →
    nibblesPlaced n s =
      (frameOf (ticks n s).regs.light (ticks n s).regs.temp (ticks n s).regs.sound).take
        (placedBefore (phaseAt s n)) ∧
    (phaseAt s n = .wEnd →
      nibblesPlaced n s = frameOf (ticks n s).regs.light (ticks n s).regs.temp (ticks n s).regs.sound)

/-- The SensorFrame is immutable for the session: from the tick after its sampling phase fired, each of `LIGHT`, `TEMP`,
`SOUND` holds the value the collaborator gave at that tick (10_state.md R21, 41_sampling.md R125). -/
def Obligations.SensorFrameIsFixedOnceSampled : Prop :=
  ∀ (s : State) (m n : Nat), s.regs.phase = .smpL → inSession s n → m < n → fires (ticks m s) = true →
    (phaseAt s m = .smpL → (ticks n s).regs.light = (sampledAt s m).adcVal) ∧
    (phaseAt s m = .smpT → (ticks n s).regs.temp = (sampledAt s m).adcVal) ∧
    (phaseAt s m = .smpS → (ticks n s).regs.sound = (sampledAt s m).adcVal)

/-- Each phase fires at most once in a session, in order: by the time the session is in a phase, each earlier phase has
fired once and no other has. So each channel is sampled once, each flag captured once, no nibble is placed again
(43_engine_step.md R179, R181, R182, derived there). -/
def Obligations.EachPhaseFiresOnceASession : Prop :=
  ∀ (s : State) (n : Nat) (p : Phase), s.regs.phase = .smpL → inSession s n → p ≠ .idle →
    firingCount p n s = if phaseIndex p < phaseIndex (phaseAt s n) then 1 else 0

/-- From `W_LH` on each nibble is placed on an edge of `FRAME_CLOCK` in the sampled sequence, whatever the controller does;
the first one, placed by `W_SOF`, is if the controller keeps `FRAME_CLOCK` deasserted while the samples are taken
(42_nibble_sequencer.md R142, derived there; 70_reset_and_hazards.md R251). -/
def Obligations.NibblesArePlacedOnClockEdges : Prop :=
  ∀ (s : State) (k : Nat), s.regs.phase = .smpL → inSession s (k + 1) →
    (phaseAt s (k + 1) = .wSof → clockIdleDuty s) →
    isWait (phaseAt s (k + 1)) = true → fires (ticks (k + 1) s) = true →
    (sampledAt s (k + 1)).fc = !(sampledAt s k).fc

/-- The ports are written at a tick exactly when it is the firing of `W_END`, and then with `CAP0` and `CAP1`
(40_session_controller.md R104; 43_engine_step.md R176). -/
def Obligations.PortsAreWrittenOnlyByTheCommit : Prop :=
  ∀ s t : State, step s = .next t →
    (s.regs.phase = .wEnd → s.sampled.att = false → t.regs.port0 = s.regs.cap0 ∧ t.regs.port1 = s.regs.cap1) ∧
    (¬(s.regs.phase = .wEnd ∧ s.sampled.att = false) →
      t.regs.port0 = s.regs.port0 ∧ t.regs.port1 = s.regs.port1)

/-- A completed session commits the two output bits: the ports after it are the levels of `rdy_ext` sampled at the
firings of `W_TL` and of `W_SL` of the same session (43_engine_step.md R176, derived there). -/
def Obligations.CommitDeliversTheBitsOfTheWindows : Prop :=
  ∀ (s : State) (a b c : Nat), s.regs.phase = .smpL → inSession s c →
    phaseAt s a = .wTl → fires (ticks a s) = true → a < c →
    phaseAt s b = .wSl → fires (ticks b s) = true → b < c →
    phaseAt s c = .wEnd → (sampledAt s c).att = false →
    phaseAt s (c + 1) = .idle ∧ (ticks (c + 1) s).regs.port0 = (sampledAt s a).rdyExt ∧
    (ticks (c + 1) s).regs.port1 = (sampledAt s b).rdyExt

/-- An abandoned session leaves the ports as they were before it, however far it went (43_engine_step.md R177, derived
there). -/
def Obligations.AbandonedSessionLeavesThePorts : Prop :=
  ∀ (s : State) (n : Nat), s.regs.phase = .smpL → inSession s n →
    phaseAt s n ∈ [Instr.wSof, .wLh, .wTl, .wTh, .wSl, .wSh] → (sampledAt s n).att = false →
    phaseAt s (n + 1) = .idle ∧ (ticks (n + 1) s).regs.port0 = s.regs.port0 ∧
    (ticks (n + 1) s).regs.port1 = s.regs.port1

/-- No session completes in fewer than eleven ticks: `W_END` is at least ten ticks after a tick in `IDLE`
(43_engine_step.md R183, derived there; `ShortSessionTransfersEverything` shows that eleven are enough). -/
def Obligations.NoSessionIsShorterThanElevenTicks : Prop :=
  ∀ (s : State) (n : Nat), s.regs.phase = .idle → phaseAt s n = .wEnd → 11 ≤ n + 1

/-- The source's first scenario for all readings and output bits: on the eleven inputs of a session without waits the six
bus levels are the frame, the ports become the two output bits, and the machine is idle again with those inputs used up
(43_engine_step.md R175, R176, R183; 95_test_vectors.md V1, V3). -/
def Obligations.ShortSessionTransfersEverything : Prop :=
  ∀ (s : State) (l t d : Reading) (bit0 bit1 : Level) (rest : List Input), s.regs.phase = .idle →
    s.inputs = shortSession l t d bit0 bit1 ++ rest →
    [5, 6, 7, 8, 9, 10].map (fun k => (out (ticks k s).regs).dataBus) = frameOf l t d ∧
    (out (ticks 4 s).regs).dataReady = .low ∧ (out (ticks 5 s).regs).dataReady = .released ∧
    phaseAt s 11 = .idle ∧ (ticks 11 s).regs.port0 = bit0 ∧ (ticks 11 s).regs.port1 = bit1 ∧
    (ticks 11 s).inputs = rest

/-! ### Duties and progress -/

/-- With a collaborator that answers each call after at most `m` ticks of waiting, the three samples are taken within
`3 * (m + 1)` ticks, and only then is `DATA_READY` low (60_exceptions.md R227, 20_memory.md R63 (c); decision D21). -/
def Obligations.SamplingEndsWithinTheLatency : Prop :=
  ∀ (m : Nat) (s : State), s.regs.phase = .smpL → answersWithin m s →
    ∃ n, n ≤ 3 * (m + 1) ∧ phaseAt s n = .wSof ∧ (out (ticks n s).regs).dataReady = .low ∧
      ∀ k, k < n → adcRequest (phaseAt s k) = true ∧ (ticks k s).regs.rdyLow = s.regs.rdyLow

/-- Under the collaborator's duty at the machine's own `ADC_LATENCY_MAX`, whatever it is, sampling ends
(00_scope.md R6, 60_exceptions.md R227; decision D21). -/
def Obligations.CollaboratorDutyEndsSampling : Prop :=
  ∀ s : State, s.regs.phase = .smpL → collaboratorDuty s →
    ∃ n, phaseAt s n = .wSof ∧ ∀ k, k < n → adcRequest (phaseAt s k) = true

/-- A session in which both sides keep their duties completes, however long they take: all six nibbles are placed and the
ports become the controller's two output bits (60_exceptions.md R227; 70_reset_and_hazards.md R250 to R254, derived
there from the engine's rules). -/
def Obligations.CooperativeSessionCommits : Prop :=
  ∀ (s : State) (bit0 bit1 : Level), s.regs.phase = .smpL → answersEventually s → toggleDuty s →
    outputBitsDuty bit0 bit1 s → attentionDuty s →
    ∃ n, inSession s n ∧ phaseAt s n = .wEnd ∧
      nibblesPlaced n s = frameOf (ticks n s).regs.light (ticks n s).regs.temp (ticks n s).regs.sound ∧
      phaseAt s (n + 1) = .idle ∧ (ticks (n + 1) s).regs.port0 = bit0 ∧ (ticks (n + 1) s).regs.port1 = bit1

/-- While the controller keeps `DATA_READY` released, it sees the peripheral's signal: the line is low exactly while the
engine waits for the start of frame ("sampling complete"), and when `W_SOF` fires the line rises at the next tick, in
`W_LH` ("nibble ready"), and stays high as long as the phase lasts and the controller still releases it (20_memory.md R68;
70_reset_and_hazards.md R257, whose duty ends with the first nibble, log entry 21; decisions D4, D16). -/
def Obligations.ReadySignalIsVisibleWhenReleased : Prop :=
  ∀ (s : State) (k : Nat), pinsMatchPhase s.regs → s.regs.phase = .smpL → releaseDuty s → inSession s k →
    (adcRequest (phaseAt s k) = true ∨ phaseAt s k = .wSof ∨
        (phaseAt s k = .wLh ∧ (sampledAt s k).rdyExt = true) →
      (dataReadyLevel (sampledAt s k) (ticks k s).regs = false ↔ phaseAt s k = .wSof)) ∧
    (phaseAt s k = .wSof → fires (ticks k s) = true →
      dataReadyLevel (sampledAt s k) (ticks k s).regs = false ∧ phaseAt s (k + 1) = .wLh ∧
      ((sampledAt s (k + 1)).rdyExt = true →
        dataReadyLevel (sampledAt s (k + 1)) (ticks (k + 1) s).regs = true))

/-! ### Two designs -/

/-- The design without pin-control registers, which computes the lines from `PHASE` and the SensorFrame, gives the same
outputs on the same inputs at every tick (43_engine_step.md R173: "both give the same `out`"). -/
def Obligations.DesignWithoutPinRegistersGivesTheSameOutputs : Prop :=
  ∀ (s : State) (n : Nat), pinsMatchPhase s.regs → out (ticks n s).regs = slimOut (slimAfter s n)
end

