-- ==== Sys2Proof/Laws/State.lean ====
section
/-! SUPPORT. What each update of the registers does to each register: one lemma per update and field, true by rfl. -/

namespace Sys2Proof.Machine

/-! ### `busDrive` -/

@[simp] theorem Regs.busDrive_phase (r : Regs) (n : Nibble) : (r.busDrive n).phase = r.phase := rfl
@[simp] theorem Regs.busDrive_light (r : Regs) (n : Nibble) : (r.busDrive n).light = r.light := rfl
@[simp] theorem Regs.busDrive_temp (r : Regs) (n : Nibble) : (r.busDrive n).temp = r.temp := rfl
@[simp] theorem Regs.busDrive_sound (r : Regs) (n : Nibble) : (r.busDrive n).sound = r.sound := rfl
@[simp] theorem Regs.busDrive_cap0 (r : Regs) (n : Nibble) : (r.busDrive n).cap0 = r.cap0 := rfl
@[simp] theorem Regs.busDrive_cap1 (r : Regs) (n : Nibble) : (r.busDrive n).cap1 = r.cap1 := rfl
@[simp] theorem Regs.busDrive_port0 (r : Regs) (n : Nibble) : (r.busDrive n).port0 = r.port0 := rfl
@[simp] theorem Regs.busDrive_port1 (r : Regs) (n : Nibble) : (r.busDrive n).port1 = r.port1 := rfl
@[simp] theorem Regs.busDrive_rdyLow (r : Regs) (n : Nibble) : (r.busDrive n).rdyLow = r.rdyLow := rfl
@[simp] theorem Regs.busDrive_busEn (r : Regs) (n : Nibble) : (r.busDrive n).busEn = true := rfl
@[simp] theorem Regs.busDrive_busOut (r : Regs) (n : Nibble) : (r.busDrive n).busOut = n := rfl

/-! ### `busRelease` -/

@[simp] theorem Regs.busRelease_phase (r : Regs) : (r.busRelease).phase = r.phase := rfl
@[simp] theorem Regs.busRelease_light (r : Regs) : (r.busRelease).light = r.light := rfl
@[simp] theorem Regs.busRelease_temp (r : Regs) : (r.busRelease).temp = r.temp := rfl
@[simp] theorem Regs.busRelease_sound (r : Regs) : (r.busRelease).sound = r.sound := rfl
@[simp] theorem Regs.busRelease_cap0 (r : Regs) : (r.busRelease).cap0 = r.cap0 := rfl
@[simp] theorem Regs.busRelease_cap1 (r : Regs) : (r.busRelease).cap1 = r.cap1 := rfl
@[simp] theorem Regs.busRelease_port0 (r : Regs) : (r.busRelease).port0 = r.port0 := rfl
@[simp] theorem Regs.busRelease_port1 (r : Regs) : (r.busRelease).port1 = r.port1 := rfl
@[simp] theorem Regs.busRelease_rdyLow (r : Regs) : (r.busRelease).rdyLow = r.rdyLow := rfl
@[simp] theorem Regs.busRelease_busEn (r : Regs) : (r.busRelease).busEn = false := rfl
@[simp] theorem Regs.busRelease_busOut (r : Regs) : (r.busRelease).busOut = 0xF := rfl

/-! ### `rdyPullLow` -/

@[simp] theorem Regs.rdyPullLow_phase (r : Regs) : (r.rdyPullLow).phase = r.phase := rfl
@[simp] theorem Regs.rdyPullLow_light (r : Regs) : (r.rdyPullLow).light = r.light := rfl
@[simp] theorem Regs.rdyPullLow_temp (r : Regs) : (r.rdyPullLow).temp = r.temp := rfl
@[simp] theorem Regs.rdyPullLow_sound (r : Regs) : (r.rdyPullLow).sound = r.sound := rfl
@[simp] theorem Regs.rdyPullLow_cap0 (r : Regs) : (r.rdyPullLow).cap0 = r.cap0 := rfl
@[simp] theorem Regs.rdyPullLow_cap1 (r : Regs) : (r.rdyPullLow).cap1 = r.cap1 := rfl
@[simp] theorem Regs.rdyPullLow_port0 (r : Regs) : (r.rdyPullLow).port0 = r.port0 := rfl
@[simp] theorem Regs.rdyPullLow_port1 (r : Regs) : (r.rdyPullLow).port1 = r.port1 := rfl
@[simp] theorem Regs.rdyPullLow_rdyLow (r : Regs) : (r.rdyPullLow).rdyLow = true := rfl
@[simp] theorem Regs.rdyPullLow_busEn (r : Regs) : (r.rdyPullLow).busEn = r.busEn := rfl
@[simp] theorem Regs.rdyPullLow_busOut (r : Regs) : (r.rdyPullLow).busOut = r.busOut := rfl

/-! ### `rdyRelease` -/

@[simp] theorem Regs.rdyRelease_phase (r : Regs) : (r.rdyRelease).phase = r.phase := rfl
@[simp] theorem Regs.rdyRelease_light (r : Regs) : (r.rdyRelease).light = r.light := rfl
@[simp] theorem Regs.rdyRelease_temp (r : Regs) : (r.rdyRelease).temp = r.temp := rfl
@[simp] theorem Regs.rdyRelease_sound (r : Regs) : (r.rdyRelease).sound = r.sound := rfl
@[simp] theorem Regs.rdyRelease_cap0 (r : Regs) : (r.rdyRelease).cap0 = r.cap0 := rfl
@[simp] theorem Regs.rdyRelease_cap1 (r : Regs) : (r.rdyRelease).cap1 = r.cap1 := rfl
@[simp] theorem Regs.rdyRelease_port0 (r : Regs) : (r.rdyRelease).port0 = r.port0 := rfl
@[simp] theorem Regs.rdyRelease_port1 (r : Regs) : (r.rdyRelease).port1 = r.port1 := rfl
@[simp] theorem Regs.rdyRelease_rdyLow (r : Regs) : (r.rdyRelease).rdyLow = false := rfl
@[simp] theorem Regs.rdyRelease_busEn (r : Regs) : (r.rdyRelease).busEn = r.busEn := rfl
@[simp] theorem Regs.rdyRelease_busOut (r : Regs) : (r.rdyRelease).busOut = r.busOut := rfl

/-! ### `goto` -/

@[simp] theorem Regs.goto_phase (r : Regs) (p : Phase) : (r.goto p).phase = p := rfl
@[simp] theorem Regs.goto_light (r : Regs) (p : Phase) : (r.goto p).light = r.light := rfl
@[simp] theorem Regs.goto_temp (r : Regs) (p : Phase) : (r.goto p).temp = r.temp := rfl
@[simp] theorem Regs.goto_sound (r : Regs) (p : Phase) : (r.goto p).sound = r.sound := rfl
@[simp] theorem Regs.goto_cap0 (r : Regs) (p : Phase) : (r.goto p).cap0 = r.cap0 := rfl
@[simp] theorem Regs.goto_cap1 (r : Regs) (p : Phase) : (r.goto p).cap1 = r.cap1 := rfl
@[simp] theorem Regs.goto_port0 (r : Regs) (p : Phase) : (r.goto p).port0 = r.port0 := rfl
@[simp] theorem Regs.goto_port1 (r : Regs) (p : Phase) : (r.goto p).port1 = r.port1 := rfl
@[simp] theorem Regs.goto_rdyLow (r : Regs) (p : Phase) : (r.goto p).rdyLow = r.rdyLow := rfl
@[simp] theorem Regs.goto_busEn (r : Regs) (p : Phase) : (r.goto p).busEn = r.busEn := rfl
@[simp] theorem Regs.goto_busOut (r : Regs) (p : Phase) : (r.goto p).busOut = r.busOut := rfl

/-! ### `commit` -/

@[simp] theorem Regs.commit_phase (r : Regs) : (r.commit).phase = r.phase := rfl
@[simp] theorem Regs.commit_light (r : Regs) : (r.commit).light = r.light := rfl
@[simp] theorem Regs.commit_temp (r : Regs) : (r.commit).temp = r.temp := rfl
@[simp] theorem Regs.commit_sound (r : Regs) : (r.commit).sound = r.sound := rfl
@[simp] theorem Regs.commit_cap0 (r : Regs) : (r.commit).cap0 = r.cap0 := rfl
@[simp] theorem Regs.commit_cap1 (r : Regs) : (r.commit).cap1 = r.cap1 := rfl
@[simp] theorem Regs.commit_port0 (r : Regs) : (r.commit).port0 = r.cap0 := rfl
@[simp] theorem Regs.commit_port1 (r : Regs) : (r.commit).port1 = r.cap1 := rfl
@[simp] theorem Regs.commit_rdyLow (r : Regs) : (r.commit).rdyLow = r.rdyLow := rfl
@[simp] theorem Regs.commit_busEn (r : Regs) : (r.commit).busEn = r.busEn := rfl
@[simp] theorem Regs.commit_busOut (r : Regs) : (r.commit).busOut = r.busOut := rfl

/-! ### `cleanup` -/

@[simp] theorem Regs.cleanup_phase (r : Regs) : (r.cleanup).phase = r.phase := rfl
@[simp] theorem Regs.cleanup_light (r : Regs) : (r.cleanup).light = r.light := rfl
@[simp] theorem Regs.cleanup_temp (r : Regs) : (r.cleanup).temp = r.temp := rfl
@[simp] theorem Regs.cleanup_sound (r : Regs) : (r.cleanup).sound = r.sound := rfl
@[simp] theorem Regs.cleanup_cap0 (r : Regs) : (r.cleanup).cap0 = r.cap0 := rfl
@[simp] theorem Regs.cleanup_cap1 (r : Regs) : (r.cleanup).cap1 = r.cap1 := rfl
@[simp] theorem Regs.cleanup_port0 (r : Regs) : (r.cleanup).port0 = r.port0 := rfl
@[simp] theorem Regs.cleanup_port1 (r : Regs) : (r.cleanup).port1 = r.port1 := rfl
@[simp] theorem Regs.cleanup_rdyLow (r : Regs) : (r.cleanup).rdyLow = false := rfl
@[simp] theorem Regs.cleanup_busEn (r : Regs) : (r.cleanup).busEn = false := rfl
@[simp] theorem Regs.cleanup_busOut (r : Regs) : (r.cleanup).busOut = 0xF := rfl

/-! ### `abandon` -/

@[simp] theorem Regs.abandon_phase (r : Regs) : (r.abandon).phase = .idle := rfl
@[simp] theorem Regs.abandon_light (r : Regs) : (r.abandon).light = r.light := rfl
@[simp] theorem Regs.abandon_temp (r : Regs) : (r.abandon).temp = r.temp := rfl
@[simp] theorem Regs.abandon_sound (r : Regs) : (r.abandon).sound = r.sound := rfl
@[simp] theorem Regs.abandon_cap0 (r : Regs) : (r.abandon).cap0 = r.cap0 := rfl
@[simp] theorem Regs.abandon_cap1 (r : Regs) : (r.abandon).cap1 = r.cap1 := rfl
@[simp] theorem Regs.abandon_port0 (r : Regs) : (r.abandon).port0 = r.port0 := rfl
@[simp] theorem Regs.abandon_port1 (r : Regs) : (r.abandon).port1 = r.port1 := rfl
@[simp] theorem Regs.abandon_rdyLow (r : Regs) : (r.abandon).rdyLow = false := rfl
@[simp] theorem Regs.abandon_busEn (r : Regs) : (r.abandon).busEn = false := rfl
@[simp] theorem Regs.abandon_busOut (r : Regs) : (r.abandon).busOut = 0xF := rfl

/-! ### `latchLight` -/

@[simp] theorem Regs.latchLight_phase (r : Regs) (v : Reading) : (r.latchLight v).phase = r.phase := rfl
@[simp] theorem Regs.latchLight_light (r : Regs) (v : Reading) : (r.latchLight v).light = v := rfl
@[simp] theorem Regs.latchLight_temp (r : Regs) (v : Reading) : (r.latchLight v).temp = r.temp := rfl
@[simp] theorem Regs.latchLight_sound (r : Regs) (v : Reading) : (r.latchLight v).sound = r.sound := rfl
@[simp] theorem Regs.latchLight_cap0 (r : Regs) (v : Reading) : (r.latchLight v).cap0 = r.cap0 := rfl
@[simp] theorem Regs.latchLight_cap1 (r : Regs) (v : Reading) : (r.latchLight v).cap1 = r.cap1 := rfl
@[simp] theorem Regs.latchLight_port0 (r : Regs) (v : Reading) : (r.latchLight v).port0 = r.port0 := rfl
@[simp] theorem Regs.latchLight_port1 (r : Regs) (v : Reading) : (r.latchLight v).port1 = r.port1 := rfl
@[simp] theorem Regs.latchLight_rdyLow (r : Regs) (v : Reading) : (r.latchLight v).rdyLow = r.rdyLow := rfl
@[simp] theorem Regs.latchLight_busEn (r : Regs) (v : Reading) : (r.latchLight v).busEn = r.busEn := rfl
@[simp] theorem Regs.latchLight_busOut (r : Regs) (v : Reading) : (r.latchLight v).busOut = r.busOut := rfl

/-! ### `latchTemp` -/

@[simp] theorem Regs.latchTemp_phase (r : Regs) (v : Reading) : (r.latchTemp v).phase = r.phase := rfl
@[simp] theorem Regs.latchTemp_light (r : Regs) (v : Reading) : (r.latchTemp v).light = r.light := rfl
@[simp] theorem Regs.latchTemp_temp (r : Regs) (v : Reading) : (r.latchTemp v).temp = v := rfl
@[simp] theorem Regs.latchTemp_sound (r : Regs) (v : Reading) : (r.latchTemp v).sound = r.sound := rfl
@[simp] theorem Regs.latchTemp_cap0 (r : Regs) (v : Reading) : (r.latchTemp v).cap0 = r.cap0 := rfl
@[simp] theorem Regs.latchTemp_cap1 (r : Regs) (v : Reading) : (r.latchTemp v).cap1 = r.cap1 := rfl
@[simp] theorem Regs.latchTemp_port0 (r : Regs) (v : Reading) : (r.latchTemp v).port0 = r.port0 := rfl
@[simp] theorem Regs.latchTemp_port1 (r : Regs) (v : Reading) : (r.latchTemp v).port1 = r.port1 := rfl
@[simp] theorem Regs.latchTemp_rdyLow (r : Regs) (v : Reading) : (r.latchTemp v).rdyLow = r.rdyLow := rfl
@[simp] theorem Regs.latchTemp_busEn (r : Regs) (v : Reading) : (r.latchTemp v).busEn = r.busEn := rfl
@[simp] theorem Regs.latchTemp_busOut (r : Regs) (v : Reading) : (r.latchTemp v).busOut = r.busOut := rfl

/-! ### `latchSound` -/

@[simp] theorem Regs.latchSound_phase (r : Regs) (v : Reading) : (r.latchSound v).phase = r.phase := rfl
@[simp] theorem Regs.latchSound_light (r : Regs) (v : Reading) : (r.latchSound v).light = r.light := rfl
@[simp] theorem Regs.latchSound_temp (r : Regs) (v : Reading) : (r.latchSound v).temp = r.temp := rfl
@[simp] theorem Regs.latchSound_sound (r : Regs) (v : Reading) : (r.latchSound v).sound = v := rfl
@[simp] theorem Regs.latchSound_cap0 (r : Regs) (v : Reading) : (r.latchSound v).cap0 = r.cap0 := rfl
@[simp] theorem Regs.latchSound_cap1 (r : Regs) (v : Reading) : (r.latchSound v).cap1 = r.cap1 := rfl
@[simp] theorem Regs.latchSound_port0 (r : Regs) (v : Reading) : (r.latchSound v).port0 = r.port0 := rfl
@[simp] theorem Regs.latchSound_port1 (r : Regs) (v : Reading) : (r.latchSound v).port1 = r.port1 := rfl
@[simp] theorem Regs.latchSound_rdyLow (r : Regs) (v : Reading) : (r.latchSound v).rdyLow = r.rdyLow := rfl
@[simp] theorem Regs.latchSound_busEn (r : Regs) (v : Reading) : (r.latchSound v).busEn = r.busEn := rfl
@[simp] theorem Regs.latchSound_busOut (r : Regs) (v : Reading) : (r.latchSound v).busOut = r.busOut := rfl

/-! ### `capturePort0` -/

@[simp] theorem Regs.capturePort0_phase (r : Regs) (b : Level) : (r.capturePort0 b).phase = r.phase := rfl
@[simp] theorem Regs.capturePort0_light (r : Regs) (b : Level) : (r.capturePort0 b).light = r.light := rfl
@[simp] theorem Regs.capturePort0_temp (r : Regs) (b : Level) : (r.capturePort0 b).temp = r.temp := rfl
@[simp] theorem Regs.capturePort0_sound (r : Regs) (b : Level) : (r.capturePort0 b).sound = r.sound := rfl
@[simp] theorem Regs.capturePort0_cap0 (r : Regs) (b : Level) : (r.capturePort0 b).cap0 = b := rfl
@[simp] theorem Regs.capturePort0_cap1 (r : Regs) (b : Level) : (r.capturePort0 b).cap1 = r.cap1 := rfl
@[simp] theorem Regs.capturePort0_port0 (r : Regs) (b : Level) : (r.capturePort0 b).port0 = r.port0 := rfl
@[simp] theorem Regs.capturePort0_port1 (r : Regs) (b : Level) : (r.capturePort0 b).port1 = r.port1 := rfl
@[simp] theorem Regs.capturePort0_rdyLow (r : Regs) (b : Level) : (r.capturePort0 b).rdyLow = r.rdyLow := rfl
@[simp] theorem Regs.capturePort0_busEn (r : Regs) (b : Level) : (r.capturePort0 b).busEn = r.busEn := rfl
@[simp] theorem Regs.capturePort0_busOut (r : Regs) (b : Level) : (r.capturePort0 b).busOut = r.busOut := rfl

/-! ### `capturePort1` -/

@[simp] theorem Regs.capturePort1_phase (r : Regs) (b : Level) : (r.capturePort1 b).phase = r.phase := rfl
@[simp] theorem Regs.capturePort1_light (r : Regs) (b : Level) : (r.capturePort1 b).light = r.light := rfl
@[simp] theorem Regs.capturePort1_temp (r : Regs) (b : Level) : (r.capturePort1 b).temp = r.temp := rfl
@[simp] theorem Regs.capturePort1_sound (r : Regs) (b : Level) : (r.capturePort1 b).sound = r.sound := rfl
@[simp] theorem Regs.capturePort1_cap0 (r : Regs) (b : Level) : (r.capturePort1 b).cap0 = r.cap0 := rfl
@[simp] theorem Regs.capturePort1_cap1 (r : Regs) (b : Level) : (r.capturePort1 b).cap1 = b := rfl
@[simp] theorem Regs.capturePort1_port0 (r : Regs) (b : Level) : (r.capturePort1 b).port0 = r.port0 := rfl
@[simp] theorem Regs.capturePort1_port1 (r : Regs) (b : Level) : (r.capturePort1 b).port1 = r.port1 := rfl
@[simp] theorem Regs.capturePort1_rdyLow (r : Regs) (b : Level) : (r.capturePort1 b).rdyLow = r.rdyLow := rfl
@[simp] theorem Regs.capturePort1_busEn (r : Regs) (b : Level) : (r.capturePort1 b).busEn = r.busEn := rfl
@[simp] theorem Regs.capturePort1_busOut (r : Regs) (b : Level) : (r.capturePort1 b).busOut = r.busOut := rfl

/-! ### The end of a tick and the power cycle -/

@[simp] theorem State.nextTick_regs (s : State) : s.nextTick.regs = s.regs := rfl
@[simp] theorem State.nextTick_inputs (s : State) : s.nextTick.inputs = s.inputs.tail := rfl
@[simp] theorem State.nextTick_tick (s : State) : s.nextTick.tick = s.tick + 1 := rfl
@[simp] theorem State.powerCycle_inputs (s : State) : s.powerCycle.inputs = s.inputs := rfl
@[simp] theorem State.powerCycle_tick (s : State) : s.powerCycle.tick = s.tick := rfl

/-- The inputs of a tick are the first the state gives. -/
theorem State.sampled_cons (r : Regs) (i : Input) (rest : List Input) (n : Nat) :
    (State.mk r (i :: rest) n).sampled = i := rfl

end Sys2Proof.Machine
end

