-- ==== Sys2Proof/Laws/Ops.lean ====
section
/-! SUPPORT. Each shared operation, said once: what it can do, to be cited in place of unfolding it. -/

namespace Sys2Proof.Machine

/-- An abandonment writes the three pin-control registers and `PHASE` and nothing else (60_exceptions.md R204). -/
theorem abandon_eq (r : Regs) :
    r.abandon = { r with rdyLow := false, busEn := false, busOut := 0xF, phase := .idle } := rfl

/-- The cleanup writes the three pin-control registers and nothing else (40_session_controller.md R106). -/
theorem cleanup_eq (r : Regs) : r.cleanup = { r with rdyLow := false, busEn := false, busOut := 0xF } := rfl

/-- A sampling phase that is not answered stays (41_sampling.md R120). -/
theorem awaitSample_stays (fire : Reading → Regs → Regs) {i : Input} (r : Regs) (h : i.adcDone = false) :
    awaitSample fire i r = r := by simp [awaitSample, h]

/-- A sampling phase that is answered fires (41_sampling.md R120). -/
theorem awaitSample_fires (fire : Reading → Regs → Regs) {i : Input} (r : Regs) (h : i.adcDone = true) :
    awaitSample fire i r = fire i.adcVal r := by simp [awaitSample, h]

/-- All a sampling phase can do. -/
theorem awaitSample_cases (fire : Reading → Regs → Regs) (i : Input) (r : Regs) :
    (i.adcDone = true ∧ awaitSample fire i r = fire i.adcVal r) ∨
      (i.adcDone = false ∧ awaitSample fire i r = r) := by
  cases h : i.adcDone
  · exact .inr ⟨rfl, awaitSample_stays fire r h⟩
  · exact .inl ⟨rfl, awaitSample_fires fire r h⟩

/-- A wait phase with `ATTENTION` deasserted abandons, whatever else holds (60_exceptions.md R210). -/
theorem awaitFrameClock_abandons (p : Phase) (fire : Regs → Regs) {i : Input} (r : Regs) (h : i.att = false) :
    awaitFrameClock p fire i r = r.abandon := by simp [awaitFrameClock, abortCond, h]

/-- A wait phase with `ATTENTION` asserted and the awaited level fires (42_nibble_sequencer.md R140). -/
theorem awaitFrameClock_fires (p : Phase) (fire : Regs → Regs) {i : Input} (r : Regs) (h : i.att = true)
    (hg : go p i = true) : awaitFrameClock p fire i r = fire r := by simp [awaitFrameClock, abortCond, h, hg]

/-- A wait phase with `ATTENTION` asserted and the other level stays (42_nibble_sequencer.md R140). -/
theorem awaitFrameClock_stays (p : Phase) (fire : Regs → Regs) {i : Input} (r : Regs) (h : i.att = true)
    (hg : go p i = false) : awaitFrameClock p fire i r = r := by simp [awaitFrameClock, abortCond, h, hg]

/-- All a wait phase can do. -/
theorem awaitFrameClock_cases (p : Phase) (fire : Regs → Regs) (i : Input) (r : Regs) :
    (i.att = false ∧ awaitFrameClock p fire i r = r.abandon) ∨
      (i.att = true ∧ go p i = true ∧ awaitFrameClock p fire i r = fire r) ∨
      (i.att = true ∧ go p i = false ∧ awaitFrameClock p fire i r = r) := by
  cases h : i.att
  · exact .inl ⟨rfl, awaitFrameClock_abandons p fire r h⟩
  · cases hg : go p i
    · exact .inr (.inr ⟨rfl, rfl, awaitFrameClock_stays p fire r h hg⟩)
    · exact .inr (.inl ⟨rfl, rfl, awaitFrameClock_fires p fire r h hg⟩)

/-- A word of the table goes into `PHASE` and nowhere else (30_encoding.md R80). -/
theorem placeWord_of_decode (s : State) {nbits w : Nat} {op : Instr} (h : decodeTableWord nbits w = some op) :
    s.placeWord nbits w = { s with regs := s.regs.goto op } := by simp [State.placeWord, h]

/-- A word that is no operation leaves the state alone (30_encoding.md R81). -/
theorem placeWord_of_reject (s : State) {nbits w : Nat} (h : decodeTableWord nbits w = none) :
    s.placeWord nbits w = s := by simp [State.placeWord, h]

/-- Past the list the inputs of a tick are free (10_state.md R34). -/
theorem sampled_nil (r : Regs) (n : Nat) : (State.mk r [] n).sampled = Config.freeInput n := rfl

/-- The low half of a reading is its value modulo 16 (30_encoding.md R88). -/
theorem lo_toNat (v : Reading) : (lo v).toNat = v.toNat % 16 := by simp [lo]

/-- The high half of a reading is its value divided by 16 (30_encoding.md R88). -/
theorem hi_toNat (v : Reading) : (hi v).toNat = v.toNat / 16 := by
  have h := v.isLt
  simp only [hi, BitVec.extractLsb'_toNat, Nat.shiftRight_eq_div_pow]
  omega

end Sys2Proof.Machine
end

