-- ==== Sys2Proof/Laws/PerInstr.lean ====
section
/-! SUPPORT. One lemma per operation about it as syntax: its code is assigned, is its own, and reads back. -/

namespace Sys2Proof.Laws.Encoding

/-- The operation is well-formed, its code is assigned, and its code and its byte decode to it (30_encoding.md R80). -/
def Statement (i : Instr) : Prop :=
  i.wf = true ∧ codeAssigned (encode i) = true ∧ decode (encode i) = .ok i ∧ decodeBytes [encodeByte i] = .ok i

theorem idle : Statement .idle := ⟨rfl, rfl, rfl, rfl⟩
theorem smpL : Statement .smpL := ⟨rfl, rfl, rfl, rfl⟩
theorem smpT : Statement .smpT := ⟨rfl, rfl, rfl, rfl⟩
theorem smpS : Statement .smpS := ⟨rfl, rfl, rfl, rfl⟩
theorem wSof : Statement .wSof := ⟨rfl, rfl, rfl, rfl⟩
theorem wLh : Statement .wLh := ⟨rfl, rfl, rfl, rfl⟩
theorem wTl : Statement .wTl := ⟨rfl, rfl, rfl, rfl⟩
theorem wTh : Statement .wTh := ⟨rfl, rfl, rfl, rfl⟩
theorem wSl : Statement .wSl := ⟨rfl, rfl, rfl, rfl⟩
theorem wSh : Statement .wSh := ⟨rfl, rfl, rfl, rfl⟩
theorem wEnd : Statement .wEnd := ⟨rfl, rfl, rfl, rfl⟩

end Sys2Proof.Laws.Encoding
end

