-- ==== Sys2Proof/Laws/Step.lean ====
section
/-! SUPPORT. One tick, said once: `exec` and `step` always answer a next state, and `tickRegs` is the engine's
`step : State x Input -> State` of 00_scope.md R10 on the registers. -/

namespace Sys2Proof.Machine

/-- The registers after a tick of operation `op` on the inputs `i`. -/
def tickRegs (op : Instr) (i : Input) (r : Regs) : Regs :=
  match op with
  | .idle => idleTick i r
  | .smpL => smpLTick i r
  | .smpT => smpTTick i r
  | .smpS => smpSTick i r
  | .wSof => wSofTick i r
  | .wLh => wLhTick i r
  | .wTl => wTlTick i r
  | .wTh => wThTick i r
  | .wSl => wSlTick i r
  | .wSh => wShTick i r
  | .wEnd => wEndTick i r

/-- Every operation answers a next state, and only the registers change. -/
theorem exec_eq (op : Instr) (s : State) : exec op s = .next { s with regs := tickRegs op s.sampled s.regs } := by
  cases op <;> rfl

/-- `step` is the operation in `PHASE`, then the end of the tick. -/
theorem step_eq (s : State) :
    step s = .next (State.nextTick { s with regs := tickRegs s.regs.phase s.sampled s.regs }) := by
  simp only [step, State.fetch, exec_eq]

theorem step_eq_tickOf (s : State) : step s = .next (tickOf s) := by simp only [tickOf, step_eq]

/-- The state a step answers is the one `tickOf` gives. -/
theorem step_next_iff (s t : State) : step s = .next t ↔ t = tickOf s := by
  rw [step_eq_tickOf]
  exact ⟨fun h => (Host.Outcome.next.inj h).symm, fun h => by rw [h]⟩

theorem tickOf_regs (s : State) : (tickOf s).regs = tickRegs s.regs.phase s.sampled s.regs := by
  simp only [tickOf, step_eq]; rfl

theorem tickOf_inputs (s : State) : (tickOf s).inputs = s.inputs.tail := by simp only [tickOf, step_eq]; rfl

theorem tickOf_tick (s : State) : (tickOf s).tick = s.tick + 1 := by simp only [tickOf, step_eq]; rfl

theorem ticks_zero (s : State) : ticks 0 s = s := rfl

theorem ticks_succ (n : Nat) (s : State) : ticks (n + 1) s = ticks n (tickOf s) := rfl

/-- The last tick of a run split off. -/
theorem ticks_succ_last (n : Nat) (s : State) : ticks (n + 1) s = tickOf (ticks n s) := by
  induction n generalizing s with
  | zero => rfl
  | succ n ih => rw [ticks_succ, ih]; rfl

theorem ticks_add (m n : Nat) (s : State) : ticks (m + n) s = ticks n (ticks m s) := by
  induction m generalizing s with
  | zero => simp [ticks_zero]
  | succ m ih => rw [Nat.add_right_comm, ticks_succ, ticks_succ, ih]

end Sys2Proof.Machine
end

