-- ==== Sys2Proof/Tests/Slice0.lean ====
section
/-! SUPPORT. Tests: expected results from spec/95_test_vectors.md (X, T and P identifiers) and from the encodings of
30_encoding.md; then, for every obligation with hypotheses, a state and operands that meet them. -/

namespace Sys2Proof.Tests

open Sys2Proof Sys2Proof.Machine

/-! ### Helpers -/

/-- The start state of the single-step vectors with the given pin-control registers (95_test_vectors.md, section 3). -/
def startRegs (p : Phase) (rdyLow busEn : Level) (busOut : Nibble) : Regs :=
  { phase := p, light := 0xA5, temp := 0x3C, sound := 0x96, cap0 := false, cap1 := true, port0 := true, port1 := false
    rdyLow := rdyLow, busEn := busEn, busOut := busOut }

/-- The start state of each phase (the table of 95_test_vectors.md, section 3). -/
def vectorRegs (p : Phase) : Regs :=
  match p with
  | .idle => startRegs .idle false false 0xF
  | .smpL => startRegs .smpL false false 0xF
  | .smpT => startRegs .smpT false false 0xF
  | .smpS => startRegs .smpS false false 0xF
  | .wSof => startRegs .wSof true false 0xF
  | .wLh => startRegs .wLh false true 0x5
  | .wTl => startRegs .wTl false true 0xA
  | .wTh => startRegs .wTh false true 0xC
  | .wSl => startRegs .wSl false true 0x3
  | .wSh => startRegs .wSh false true 0x6
  | .wEnd => startRegs .wEnd false true 0x9

/-- That state with the given input words to come. -/
def vectorState (p : Phase) (words : List (BitVec 12)) : State := ⟨vectorRegs p, words.map inputOfWord, 0⟩

/-- What a vector's row shows of a step: the next `PHASE` and `OUT`. -/
def seen (o : Host.Outcome State Fault Refusal) : Option (Phase × BitVec 10) :=
  match o with
  | .next t => some (t.regs.phase, outputWord (out t.regs))
  | .fault _ => none
  | .refused _ => none

/-- The data registers after a step: `L T S C0 C1`. -/
def dataSeen (o : Host.Outcome State Fault Refusal) : Option (List Reading × List Level) :=
  match o with
  | .next t => some ([t.regs.light, t.regs.temp, t.regs.sound], [t.regs.cap0, t.regs.cap1])
  | .fault _ => none
  | .refused _ => none

/-! ### Well-formedness and decoding -/

theorem test_reserved_codes_are_not_assigned : [11, 12, 13, 14, 15].map codeAssigned = [false, false, false, false, false] := by
  decide
theorem test_last_code_is_assigned : codeAssigned 10 = true := by decide
theorem test_tick_zero_is_ill_formed : stmtWf (.tick 0) = false := by decide
theorem test_wide_byte_is_rejected : decodeBytes [0x13] = .error (.widerThanPhase4 0x13) := rfl
theorem test_two_bytes_are_rejected : decodeBytes [0x03, 0x00] = .error (.notOneByte 2) := rfl
theorem test_reserved_code_is_rejected : decode 0b1011 = .error (.reservedCode 11) := rfl
/-- No two rows of the table match one code. -/
theorem test_rows_do_not_overlap : ∀ c : BitVec 4, (opcodeTable.filter (rowMatches c)).length ≤ 1 := by decide

theorem test_word_idle : decode 0b0000 = .ok .idle := rfl
theorem test_word_smpL : decode 0b0001 = .ok .smpL := rfl
theorem test_word_smpT : decode 0b0010 = .ok .smpT := rfl
theorem test_word_smpS : decode 0b0011 = .ok .smpS := rfl
theorem test_word_wSof : decode 0b0100 = .ok .wSof := rfl
theorem test_word_wLh : decode 0b0101 = .ok .wLh := rfl
theorem test_word_wTl : decode 0b0110 = .ok .wTl := rfl
theorem test_word_wTh : decode 0b0111 = .ok .wTh := rfl
theorem test_word_wSl : decode 0b1000 = .ok .wSl := rfl
theorem test_word_wSh : decode 0b1001 = .ok .wSh := rfl
theorem test_word_wEnd : decode 0b1010 = .ok .wEnd := rfl

/-! ### Operands and words -/

/-- X8, X9. -/
theorem test_halves : (lo 0x80, hi 0x80, lo 0x3C, hi 0x3C) = (0x0, 0x8, 0xC, 0x3) := by decide
/-- X14. -/
theorem test_input_word : inputWord ⟨true, false, true, true, 0x3C⟩ = 0x3CD := by decide
/-- X15. -/
theorem test_input_of_word : inputOfWord 0x003 = ⟨true, true, false, false, 0x00⟩ := by decide
/-- X21 to X24. -/
theorem test_shared_line :
    [(true, false), (false, false), (true, true), (false, true)].map
      (fun p => dataReadyLevel ⟨false, false, p.1, false, 0⟩ (startRegs .wSof p.2 false 0xF)) =
    [true, false, false, false] := by decide
/-- The encoding of program P2. -/
theorem test_script_words :
    scriptWords [.openSession, .sample 0x3C, .sample 0x0F, .sample 0xFF, .toggle, .toggle, .rdy true, .toggle,
      .closeSession, .fc false, .tick 1] = [0x005, 0x3CD, 0x0FD, 0xFFD, 0x007, 0x005, 0x007, 0x006, 0x004] := by decide

/-! ### Single steps -/

theorem test_T2_idle : seen (step (vectorState .idle [0x006])) = some (.idle, 0x1CF) := by decide
theorem test_T4_idle : seen (step (vectorState .idle [0x007])) = some (.smpL, 0x12F) := by decide
theorem test_T6_smpL : seen (step (vectorState .smpL [0x004])) = some (.smpL, 0x12F) := by decide
theorem test_T12_smpT : seen (step (vectorState .smpT [0x004])) = some (.smpT, 0x16F) := by decide
theorem test_T18_smpS : seen (step (vectorState .smpS [0x004])) = some (.smpS, 0x1AF) := by decide
theorem test_T24_wSof : seen (step (vectorState .wSof [0x006])) = some (.idle, 0x1CF) := by decide
theorem test_T27_wSof : seen (step (vectorState .wSof [0x003])) = some (.wLh, 0x1C5) := by decide
theorem test_T30_wLh : seen (step (vectorState .wLh [0x004])) = some (.idle, 0x1CF) := by decide
theorem test_T33_wLh : seen (step (vectorState .wLh [0x001])) = some (.wTl, 0x1CA) := by decide
theorem test_T38_wTl : seen (step (vectorState .wTl [0x006])) = some (.idle, 0x1CF) := by decide
theorem test_T44_wTh : seen (step (vectorState .wTh [0x004])) = some (.idle, 0x1CF) := by decide
theorem test_T47_wTh : seen (step (vectorState .wTh [0x001])) = some (.wSl, 0x1C3) := by decide
theorem test_T52_wSl : seen (step (vectorState .wSl [0x006])) = some (.idle, 0x1CF) := by decide
theorem test_T58_wSh : seen (step (vectorState .wSh [0x004])) = some (.idle, 0x1CF) := by decide
theorem test_T61_wSh : seen (step (vectorState .wSh [0x001])) = some (.wEnd, 0x1C9) := by decide
theorem test_T66_wEnd : seen (step (vectorState .wEnd [0x007])) = some (.wEnd, 0x1C9) := by decide
theorem test_T69_wEnd : seen (step (vectorState .wEnd [0x000])) = some (.idle, 0x2CF) := by decide
theorem test_T8_smpL :
    dataSeen (step (vectorState .smpL [0x7EC])) = some ([0x7E, 0x3C, 0x96], [false, true]) := by decide
theorem test_T16_smpT :
    dataSeen (step (vectorState .smpT [0xFFD])) = some ([0xA5, 0xFF, 0x96], [false, true]) := by decide
theorem test_T20_smpS :
    dataSeen (step (vectorState .smpS [0x7EC])) = some ([0xA5, 0x3C, 0x7E], [false, true]) := by decide
theorem test_T43_wTl :
    dataSeen (step (vectorState .wTl [0x007])) = some ([0xA5, 0x3C, 0x96], [true, true]) := by decide
theorem test_T55_wSl :
    dataSeen (step (vectorState .wSl [0x003])) = some ([0xA5, 0x3C, 0x96], [false, false]) := by decide

/-! ### Witnesses: the hypotheses of every obligation can be met -/

/-- The session of the source's first scenario from its first sample on: `SMP_L` at tick 0, `W_END` at tick 9. -/
def sessionState : State := ⟨vectorRegs .smpL, (shortSession 0x3C 0x0F 0xFF true false).tail, 0⟩

/-- The session of the source's second scenario: abandoned in `W_TH` at tick 6. -/
def abandonedState : State :=
  vectorState .smpL [0x3CD, 0x0FD, 0xFFD, 0x007, 0x005, 0x007, 0x006, 0x004]

theorem session_inSession : inSession sessionState 9 := by unfold inSession; decide

/-- The session is over after tick 9, so a duty over it is a finite check. -/
theorem session_bound {k : Nat} (h : inSession sessionState k) : k ≤ 9 := by
  by_contra hk
  exact h 10 (by omega) (by decide)

theorem witness_StepPerformsTheOperationInPhase :
    decode (encode (vectorState .wTl [0x003]).regs.phase) = .ok .wTl ∧ Instr.wf .wTl = true := ⟨rfl, rfl⟩

/-- 11 is the first word that is no operation; 256 and 0x10 are no `PHASE4` words. -/
theorem witness_TableWordsSelectTheirOperations :
    [11, 0x10, 256].map (decodeTableWord 8) = [none, none, none] ∧ 11 ≤ 11 ∧ 11 ≤ 256 := by decide

theorem witness_CodesRoundTrip : decode 0b1010 = .ok .wEnd ∧ (10#4).toNat ≤ 10 ∧ 10 < (11#4).toNat :=
  ⟨rfl, by decide, by decide⟩

theorem witness_IdleOpensASessionAtAttention :
    (vectorState .idle [0x005]).sampled.att = true ∧
    (vectorState .idle [0x004]).sampled.att = false := by decide

theorem witness_SampleLightLatchesLight :
    (vectorState .smpL [0xFFD]).sampled.adcDone = true ∧
    (vectorState .smpL [0x005]).sampled.adcDone = false := by decide

theorem witness_SampleTemperatureLatchesTemp :
    (vectorState .smpT [0xFFD]).sampled.adcDone = true ∧
    (vectorState .smpT [0x005]).sampled.adcDone = false := by decide

theorem witness_SampleSoundLatchesSoundAndPullsReadyLow :
    (vectorState .smpS [0xFFD]).sampled.adcDone = true ∧
    (vectorState .smpS [0x005]).sampled.adcDone = false := by decide

theorem witness_StartOfFramePlacesLightLow :
    (vectorState .wSof [0x003]).sampled.att = true ∧
    (vectorState .wSof [0x003]).sampled.fc = true ∧
    (vectorState .wSof [0x005]).sampled.att = true ∧
    (vectorState .wSof [0x005]).sampled.fc = false ∧
    (vectorState .wSof [0x006]).sampled.att = false := by decide

theorem witness_TempLowIsPlacedAndPort0Captured :
    (vectorState .wTl [0x003]).sampled.att = true ∧
    (vectorState .wTl [0x003]).sampled.fc = true ∧
    (vectorState .wTl [0x005]).sampled.att = true ∧
    (vectorState .wTl [0x005]).sampled.fc = false ∧
    (vectorState .wTl [0x006]).sampled.att = false := by decide

theorem witness_SoundLowIsPlacedAndPort1Captured :
    (vectorState .wSl [0x003]).sampled.att = true ∧
    (vectorState .wSl [0x003]).sampled.fc = true ∧
    (vectorState .wSl [0x005]).sampled.att = true ∧
    (vectorState .wSl [0x005]).sampled.fc = false ∧
    (vectorState .wSl [0x006]).sampled.att = false := by decide

theorem witness_LightHighIsPlacedAtClockLow :
    (vectorState .wLh [0x005]).sampled.att = true ∧
    (vectorState .wLh [0x005]).sampled.fc = false ∧
    (vectorState .wLh [0x007]).sampled.att = true ∧
    (vectorState .wLh [0x007]).sampled.fc = true ∧
    (vectorState .wLh [0x004]).sampled.att = false := by decide

theorem witness_TempHighIsPlacedAtClockLow :
    (vectorState .wTh [0x005]).sampled.att = true ∧
    (vectorState .wTh [0x005]).sampled.fc = false ∧
    (vectorState .wTh [0x007]).sampled.att = true ∧
    (vectorState .wTh [0x007]).sampled.fc = true ∧
    (vectorState .wTh [0x004]).sampled.att = false := by decide

theorem witness_SoundHighIsPlacedAtClockLow :
    (vectorState .wSh [0x005]).sampled.att = true ∧
    (vectorState .wSh [0x005]).sampled.fc = false ∧
    (vectorState .wSh [0x007]).sampled.att = true ∧
    (vectorState .wSh [0x007]).sampled.fc = true ∧
    (vectorState .wSh [0x004]).sampled.att = false := by decide

theorem witness_SessionEndCommitsAndReleases :
    (vectorState .wEnd [0x004]).sampled.att = false ∧
    (vectorState .wEnd [0x005]).sampled.att = true := by decide

/-- One operation of each group of the frame: a sampling phase, a wait phase that fires, one that stays, `W_END`. -/
theorem witness_EachRegisterIsWrittenOnlyByItsPhases :
    (∃ t, exec .smpT (vectorState .smpT [0x7ED]) = .next t) ∧
    (∃ t, exec .wTl (vectorState .wTl [0x003]) = .next t) ∧ (vectorState .wTl [0x003]).sampled.att = true ∧
    (∃ t, exec .wTl (vectorState .wTl [0x001]) = .next t ∧ t.regs.phase = .wTl) ∧
    (∃ t, exec .wEnd (vectorState .wEnd [0x005]) = .next t) ∧ (vectorState .wEnd [0x005]).sampled.att = true ∧
    pinsMatchPhase (vectorState .wTl [0x003]).regs ∧ (vectorState .wTl [0x003]).regs.phase = .wTl ∧
    (vectorState .wTl [0x003]).regs.busEn = true :=
  ⟨⟨_, rfl⟩, ⟨_, rfl⟩, rfl, ⟨_, rfl, rfl⟩, ⟨_, rfl⟩, rfl, by decide, rfl, rfl⟩

/-- `W_TL` without the awaited level does not read `rdy_ext`; `SMP_L` does not read `att`. -/
theorem witness_UnreadInputsHaveNoEffect :
    agreeOnRead .wTl (inputOfWord 0x005) (inputOfWord 0x001) ∧ agreeOnRead .smpL (inputOfWord 0x7ED) (inputOfWord 0x7EA) ∧
    agreeOnRead .idle (inputOfWord 0x7EF) (inputOfWord 0x001) ∧
    (∃ t, step (vectorState .wTl [0x005]) = .next t) ∧ (∃ u, step (vectorState .wTl [0x001]) = .next u) := by
  refine ⟨?_, ?_, ?_, ⟨_, rfl⟩, ⟨_, rfl⟩⟩ <;> simp only [agreeOnRead] <;> decide

/-- The pin invariant holds in the start state of every phase. -/
theorem witness_StepFollowsTheTransitionTable (p : Phase) : pinsMatchPhase (vectorState p [0x004]).regs := by
  cases p <;> decide

theorem witness_PhaseAdvancesStaysOrReturnsToIdle :
    (∃ t, step (vectorState .wLh [0x003]) = .next t ∧ t.regs.phase = .wLh) ∧
    (∃ t, step (vectorState .wLh [0x001]) = .next t ∧ t.regs.phase = .wTl) ∧
    (∃ t, step (vectorState .wLh [0x000]) = .next t ∧ t.regs.phase = .idle) :=
  ⟨⟨_, rfl, rfl⟩, ⟨_, rfl, rfl⟩, ⟨_, rfl, rfl⟩⟩

/-- Two ticks that do not lift the hold of `W_SL`. -/
theorem witness_HoldLastsUntilItIsLifted :
    (∃ t, step (vectorState .wSl [0x005, 0x001]) = .next t) ∧
    ∀ k, k < 2 → liftedBy .wSl (sampledAt (vectorState .wSl [0x005, 0x001]) k) = false := ⟨⟨_, rfl⟩, by decide⟩

theorem witness_AbandonIsRaisedExactlyInWaitPhases :
    (∃ t, step (vectorState .wSh [0x004]) = .next t) ∧
    (vectorState .wSh [0x004]).regs.phase ∈ [Instr.wSof, .wLh, .wTl, .wTh, .wSl, .wSh] ∧
    (vectorState .wSh [0x004]).sampled.att = false := ⟨⟨_, rfl⟩, by decide, rfl⟩

/-- Both exits. -/
theorem witness_ASessionHasTwoExits :
    (∃ t, step (vectorState .wEnd [0x004]) = .next t ∧ t.regs.phase = .idle) ∧
    (∃ t, step (vectorState .wSof [0x004]) = .next t ∧ t.regs.phase = .idle) := ⟨⟨_, rfl, rfl⟩, ⟨_, rfl, rfl⟩⟩

theorem witness_SessionsDoNotOverlap :
    ∃ t u, step (vectorState .wEnd [0x004, 0x005]) = .next t ∧ step t = .next u ∧ t.regs.phase = .idle :=
  ⟨_, _, rfl, rfl, rfl⟩

theorem witness_WithdrawalDuringSamplingGivesALowPulse :
    (vectorState .smpS [0x7EC, 0x004]).regs.phase = .smpS ∧
    (vectorState .smpS [0x7EC, 0x004]).inputs = [inputOfWord 0x7EC, inputOfWord 0x004] ∧
    (inputOfWord 0x7EC).adcDone = true ∧ (inputOfWord 0x7EC).att = false ∧ (inputOfWord 0x004).att = false :=
  ⟨rfl, rfl, rfl, rfl, rfl⟩

theorem witness_StepKeepsTheIdleInvariant :
    idleReleased (vectorState .idle [0x004]).regs ∧ idleReleased (vectorState .wEnd [0x004]).regs ∧
    (∃ t, step (vectorState .wEnd [0x004]) = .next t) := ⟨by decide, by decide, ⟨_, rfl⟩⟩

theorem witness_StepKeepsPinsAFunctionOfPhase :
    pinsMatchPhase (vectorState .wSof [0x003]).regs ∧ (∃ t, step (vectorState .wSof [0x003]) = .next t) :=
  ⟨by decide, ⟨_, rfl⟩⟩

/-- In `W_TL` the values of `LIGHT`, `CAP0` and `CAP1` no longer matter. -/
theorem witness_StaleDataIsNeverObserved :
    AgreeOnLive (vectorRegs .wTl) { vectorRegs .wTl with light := 0x00, cap0 := true, cap1 := false } ∧
    (∃ t, step (vectorState .wTl [0x003]) = .next t) := by
  refine ⟨?_, ⟨_, rfl⟩⟩
  constructor <;> decide

theorem witness_SessionPlacesTheFrameInOrder :
    sessionState.regs.phase = .smpL ∧ inSession sessionState 9 ∧ phaseAt sessionState 9 = .wEnd :=
  ⟨rfl, session_inSession, by decide⟩

theorem witness_SensorFrameIsFixedOnceSampled :
    sessionState.regs.phase = .smpL ∧ inSession sessionState 9 ∧
    (phaseAt sessionState 0 = .smpL ∧ fires (ticks 0 sessionState) = true) ∧
    (phaseAt sessionState 1 = .smpT ∧ fires (ticks 1 sessionState) = true) ∧
    (phaseAt sessionState 2 = .smpS ∧ fires (ticks 2 sessionState) = true) :=
  ⟨rfl, session_inSession, by decide, by decide, by decide⟩

theorem witness_EachPhaseFiresOnceASession :
    sessionState.regs.phase = .smpL ∧ inSession sessionState 9 ∧ (Instr.wSh : Phase) ≠ .idle :=
  ⟨rfl, session_inSession, by decide⟩

/-- The first scenario's session with `FRAME_CLOCK` asserted from the first sample on (70_reset_and_hazards.md R251
broken). -/
def earlyClockState : State := vectorState .smpL [0x3CF, 0x0FF, 0xFFF, 0x007, 0x005, 0x007]

/-- `W_SOF` fires at tick 3, with `FRAME_CLOCK` kept low while sampling; `W_LH` fires at tick 4 of a session in which it
was not. -/
theorem witness_NibblesArePlacedOnClockEdges :
    (sessionState.regs.phase = .smpL ∧ inSession sessionState (2 + 1) ∧ clockIdleDuty sessionState ∧
      phaseAt sessionState (2 + 1) = .wSof ∧ fires (ticks (2 + 1) sessionState) = true) ∧
    (earlyClockState.regs.phase = .smpL ∧ inSession earlyClockState (3 + 1) ∧
      phaseAt earlyClockState (3 + 1) = .wLh ∧ fires (ticks (3 + 1) earlyClockState) = true ∧
      (sampledAt earlyClockState 0).fc = true) := by
  refine ⟨⟨rfl, fun k hk => session_inSession k (by omega), fun k h => ?_, by decide, by decide⟩,
    rfl, by unfold inSession; decide, by decide, by decide, by decide⟩
  have := session_bound h
  interval_cases k <;> decide

/-- The firing of `W_END`, and a tick of `W_END` that is none. -/
theorem witness_PortsAreWrittenOnlyByTheCommit :
    (∃ t, step (vectorState .wEnd [0x004]) = .next t) ∧ (vectorState .wEnd [0x004]).sampled.att = false ∧
    (∃ t, step (vectorState .wEnd [0x005]) = .next t) ∧ (vectorState .wEnd [0x005]).sampled.att = true :=
  ⟨⟨_, rfl⟩, rfl, ⟨_, rfl⟩, rfl⟩

theorem witness_CommitDeliversTheBitsOfTheWindows :
    sessionState.regs.phase = .smpL ∧ inSession sessionState 9 ∧
    (phaseAt sessionState 5 = .wTl ∧ fires (ticks 5 sessionState) = true) ∧
    (phaseAt sessionState 7 = .wSl ∧ fires (ticks 7 sessionState) = true) ∧
    phaseAt sessionState 9 = .wEnd ∧ (sampledAt sessionState 9).att = false :=
  ⟨rfl, session_inSession, by decide, by decide, by decide, by decide⟩

theorem witness_AbandonedSessionLeavesThePorts :
    abandonedState.regs.phase = .smpL ∧ inSession abandonedState 6 ∧ phaseAt abandonedState 6 = .wTh ∧
    (sampledAt abandonedState 6).att = false := ⟨rfl, by unfold inSession; decide, by decide, by decide⟩

/-- `W_END` ten ticks after `IDLE`, the bound itself. -/
theorem witness_NoSessionIsShorterThanElevenTicks :
    phaseAt ⟨vectorRegs .idle, shortSession 0x3C 0x0F 0xFF true false, 0⟩ 0 = .idle ∧
    phaseAt ⟨vectorRegs .idle, shortSession 0x3C 0x0F 0xFF true false, 0⟩ 10 = .wEnd := by decide

theorem witness_ShortSessionTransfersEverything :
    (State.mk (vectorRegs .idle) (shortSession 0x3C 0x0F 0xFF true false ++ []) 0).regs.phase = .idle ∧
    (State.mk (vectorRegs .idle) (shortSession 0x3C 0x0F 0xFF true false ++ []) 0).inputs =
      shortSession 0x3C 0x0F 0xFF true false ++ [] := ⟨rfl, rfl⟩

/-- The instantaneous collaborator of 41_sampling.md R120. -/
theorem session_answered : answersWithin 0 sessionState := by
  intro k h hc
  have := session_bound h
  refine ⟨0, Nat.le_refl 0, ?_⟩
  have hr := hc.1
  revert hr
  interval_cases k <;> decide

theorem witness_SamplingEndsWithinTheLatency :
    sessionState.regs.phase = .smpL ∧ answersWithin 0 sessionState := ⟨rfl, session_answered⟩

theorem session_answeredEventually : answersEventually sessionState := by
  intro k h hc
  obtain ⟨j, _, hj⟩ := session_answered k h hc
  exact ⟨j, hj⟩

/-- The duty is met whatever `Config.adcLatencyMax` is. -/
theorem witness_CollaboratorDutyEndsSampling :
    sessionState.regs.phase = .smpL ∧ collaboratorDuty sessionState := by
  refine ⟨rfl, ?_⟩
  unfold collaboratorDuty
  split
  · intro k h hc
    obtain ⟨j, hj, hd⟩ := session_answered k h hc
    exact ⟨j, by omega, hd⟩
  · exact session_answeredEventually

theorem witness_CooperativeSessionCommits :
    sessionState.regs.phase = .smpL ∧ answersEventually sessionState ∧ toggleDuty sessionState ∧
    outputBitsDuty true false sessionState ∧ attentionDuty sessionState := by
  refine ⟨rfl, session_answeredEventually, fun k h hw => ⟨0, ?_⟩, fun k h => ?_, fun k h => ⟨?_, fun he => ⟨0, ?_⟩⟩⟩ <;>
    have hk := session_bound h
  · revert hw
    interval_cases k <;> decide
  · interval_cases k <;> decide
  · interval_cases k <;> decide
  · revert he
    interval_cases k <;> decide

/-- A sampling tick, the firing of `W_SOF` at tick 3, and `W_LH` with the line released at tick 4. -/
theorem witness_ReadySignalIsVisibleWhenReleased :
    pinsMatchPhase sessionState.regs ∧ sessionState.regs.phase = .smpL ∧ releaseDuty sessionState ∧
    inSession sessionState 4 ∧ adcRequest (phaseAt sessionState 2) = true ∧
    phaseAt sessionState 3 = .wSof ∧ fires (ticks 3 sessionState) = true ∧
    phaseAt sessionState 4 = .wLh ∧ (sampledAt sessionState 4).rdyExt = true := by
  refine ⟨by decide, rfl, fun k h => ?_, fun k hk => session_inSession k (by omega), by decide, by decide, by decide,
    by decide, by decide⟩
  have := session_bound h
  interval_cases k <;> decide

theorem witness_DesignWithoutPinRegistersGivesTheSameOutputs : pinsMatchPhase sessionState.regs := by decide

end Sys2Proof.Tests
end

namespace Sys2Proof.Machine

/-! ### What a tick does to `PHASE` (10_state.md R25)

Every operation's tick is one of three moves: the hold, the abandonment, the firing. Each of the four forms of phase
(`IDLE`, sampling, wait, `W_END`) is shown to make such a move; statements about `PHASE` are then about the three. -/

/-- `r'` is `r` after a tick of phase `p` on the inputs `i`: the phase holds, is abandoned, or fires into its
successor. The hypotheses make the three exclude each other. -/
inductive PhaseMove (p : Phase) (i : Input) (r : Regs) : Regs → Prop where
  /-- The hold is not lifted (43_engine_step.md R185). -/
  | stays (hold : liftedBy p i = false) : PhaseMove p i r r
  /-- A wait phase samples `att = 0` (60_exceptions.md R202, R204). -/
  | abandons (wait : isWait p = true) (att : i.att = false) : PhaseMove p i r r.abandon
  /-- The hold is lifted, and not by an abandonment. -/
  | fires {r' : Regs} (lifted : liftedBy p i = true) (att : isWait p = true → i.att = true)
      (phase : r'.phase = nextPhase p) : PhaseMove p i r r'

theorem liftedBy_of_adcRequest {p : Phase} (h : adcRequest p = true) (i : Input) : liftedBy p i = i.adcDone := by
  revert h; cases p <;> simp [adcRequest, liftedBy]

theorem isWait_eq_false_of_adcRequest {p : Phase} (h : adcRequest p = true) : isWait p = false := by
  revert h; cases p <;> decide

/-- The hold of a wait phase is lifted by an abandonment or by the awaited level. -/
theorem liftedBy_of_isWait {p : Phase} (h : isWait p = true) (i : Input) : liftedBy p i = (abortCond i || go p i) := by
  revert h; cases p <;> simp [isWait, want, liftedBy, abortCond, go]

/-- The wait phases are the six of 10_state.md R24. -/
theorem isWait_iff_mem (p : Phase) : isWait p = true ↔ p ∈ [Instr.wSof, .wLh, .wTl, .wTh, .wSl, .wSh] := by
  cases p <;> decide

theorem phaseMove_awaitSample {p : Phase} {fire : Reading → Regs → Regs} (hp : adcRequest p = true)
    (hfire : ∀ v r, (fire v r).phase = nextPhase p) (i : Input) (r : Regs) :
    PhaseMove p i r (awaitSample fire i r) := by
  have hl := liftedBy_of_adcRequest hp i
  obtain ⟨hd, h⟩ | ⟨hd, h⟩ := awaitSample_cases fire i r <;> rw [h]
  · exact .fires (hl.trans hd) (by simp [isWait_eq_false_of_adcRequest hp]) (hfire _ _)
  · exact .stays (hl.trans hd)

theorem phaseMove_awaitFrameClock {p : Phase} {fire : Regs → Regs} (hp : isWait p = true)
    (hfire : ∀ r, (fire r).phase = nextPhase p) (i : Input) (r : Regs) :
    PhaseMove p i r (awaitFrameClock p fire i r) := by
  have hl := liftedBy_of_isWait hp i
  obtain ⟨ha, h⟩ | ⟨ha, hg, h⟩ | ⟨ha, hg, h⟩ := awaitFrameClock_cases p fire i r <;> rw [h]
  · exact .abandons hp ha
  · exact .fires (by simp [hl, hg]) (fun _ => ha) (hfire r)
  · exact .stays (by simp [hl, hg, abortCond, ha])

theorem phaseMove_idleTick (i : Input) (r : Regs) : PhaseMove .idle i r (idleTick i r) := by
  unfold idleTick
  split
  next h => exact .fires h nofun rfl
  next h => exact .stays (Bool.eq_false_iff.mpr h)

theorem phaseMove_wEndTick (i : Input) (r : Regs) : PhaseMove .wEnd i r (wEndTick i r) := by
  unfold wEndTick
  split
  next h => exact .stays (by simp [liftedBy, h])
  next h => exact .fires (by simp [liftedBy, h]) nofun rfl

/-- Every tick makes one of the three moves. -/
theorem phaseMove_tickRegs (p : Phase) (i : Input) (r : Regs) : PhaseMove p i r (tickRegs p i r) := by
  cases p with
  | idle => exact phaseMove_idleTick i r
  | smpL | smpT | smpS =>
    dsimp only [tickRegs]
    exact phaseMove_awaitSample rfl (by intros; rfl) i r
  | wSof | wLh | wTl | wTh | wSl | wSh =>
    dsimp only [tickRegs]
    exact phaseMove_awaitFrameClock rfl (by intros; rfl) i r
  | wEnd => exact phaseMove_wEndTick i r

/-- Every step makes one of the three moves. -/
theorem phaseMove_of_step {s t : State} (h : step s = .next t) : PhaseMove s.regs.phase s.sampled s.regs t.regs := by
  rw [(step_next_iff s t).mp h, tickOf_regs]
  exact phaseMove_tickRegs _ _ _

/-- Settles O19, by the three moves of a tick: the firing of `W_END` is the normal exit, an abandonment the other. -/
theorem phaseAdvancesStaysOrReturnsToIdle : Obligations.PhaseAdvancesStaysOrReturnsToIdle := by
  intro s t h
  obtain ⟨regs, inputs, tick⟩ := t
  cases (phaseMove_of_step h : PhaseMove _ _ _ regs) with
  | stays => exact .inl ⟨rfl, rfl⟩
  | abandons hw ha =>
    have hmem := List.mem_append_left [Instr.wEnd] ((isWait_iff_mem _).mp hw)
    exact .inr (.inr ⟨rfl, ha, hmem⟩)
  | fires hl _ hp =>
    by_cases hEnd : s.regs.phase = .wEnd
    · rw [hEnd] at hl hp
      have ha : s.sampled.att = false := by simpa [liftedBy] using hl
      exact .inr (.inr ⟨hp, ha, by simp [hEnd]⟩)
    · exact .inr (.inl ⟨hEnd, hp⟩)

end Sys2Proof.Machine

namespace Sys2Proof.Machine

/-! ### How a session ends, and who writes the ports (40_session_controller.md R104, R105)

`W_END` is the only phase whose successor is `IDLE`, so of the three moves of a tick only its firing and the abandonment
leave a session. Every other phase has one of the two shared forms, and those keep whatever their `fire` and the
abandonment keep; the ports are such a part of the registers. -/

/-- The registers a step answers. -/
theorem regs_of_step {s t : State} (h : step s = .next t) : t.regs = tickRegs s.regs.phase s.sampled s.regs := by
  rw [(step_next_iff s t).mp h, tickOf_regs]

/-- `W_END` is the only predecessor of `IDLE` in the order of 10_state.md R25. -/
theorem nextPhase_eq_idle_iff (p : Phase) : nextPhase p = .idle ↔ p = .wEnd := by
  cases p <;> decide

/-- `W_END` with `ATTENTION` asserted stays (40_session_controller.md R103). -/
theorem wEndTick_stays {i : Input} (r : Regs) (h : i.att = true) : wEndTick i r = r := by simp [wEndTick, h]

/-- `W_END` with `ATTENTION` deasserted writes both ports, the three pin-control registers and `PHASE`, and nothing
else (40_session_controller.md R103). -/
theorem wEndTick_commits {i : Input} (r : Regs) (h : i.att = false) :
    wEndTick i r = { r with port0 := r.cap0, port1 := r.cap1, rdyLow := false, busEn := false, busOut := 0xF,
                            phase := .idle } := by
  simp [wEndTick, h, cleanup_eq, Regs.commit, Regs.goto]

/-- A step that commits, as the exact next registers (40_session_controller.md R103). -/
theorem regs_of_step_commits {s t : State} (h : step s = .next t) (hEnd : s.regs.phase = .wEnd)
    (ha : s.sampled.att = false) :
    t.regs = { s.regs with port0 := s.regs.cap0, port1 := s.regs.cap1, rdyLow := false, busEn := false,
                           busOut := 0xF, phase := .idle } := by
  rw [regs_of_step h, hEnd]
  exact wEndTick_commits s.regs ha

/-- Settles O22, by the three moves of a tick: a hold does not leave the session, and a firing into `IDLE` is that of
`W_END`. -/
theorem aSessionHasTwoExits : Obligations.ASessionHasTwoExits := by
  intro s t h hSession hIdle
  obtain ⟨regs, inputs, tick⟩ := t
  cases (phaseMove_of_step h : PhaseMove _ _ _ regs) with
  | stays => exact absurd hIdle hSession
  | abandons hw ha => exact .inr ⟨(isWait_iff_mem _).mp hw, ha, abandon_eq _⟩
  | fires hl _ hp =>
    have hEnd : s.regs.phase = .wEnd := (nextPhase_eq_idle_iff _).mp (hp.symm.trans hIdle)
    have ha : s.sampled.att = false := by simpa [hEnd, liftedBy] using hl
    exact .inl ⟨hEnd, ha, regs_of_step_commits h hEnd ha⟩

/-- A sampling phase keeps every part `f` of the registers that its `fire` keeps. -/
theorem awaitSample_keeps {α : Type} (f : Regs → α) {fire : Reading → Regs → Regs}
    (hfire : ∀ v r, f (fire v r) = f r) (i : Input) (r : Regs) : f (awaitSample fire i r) = f r := by
  obtain ⟨-, h⟩ | ⟨-, h⟩ := awaitSample_cases fire i r <;> rw [h]
  exact hfire _ _

/-- A wait phase keeps every part `f` of the registers that its `fire` and the abandonment keep. -/
theorem awaitFrameClock_keeps {α : Type} (f : Regs → α) {p : Phase} {fire : Regs → Regs}
    (habandon : ∀ r, f r.abandon = f r) (hfire : ∀ r, f (fire r) = f r) (i : Input) (r : Regs) :
    f (awaitFrameClock p fire i r) = f r := by
  obtain ⟨-, h⟩ | ⟨-, -, h⟩ | ⟨-, -, h⟩ := awaitFrameClock_cases p fire i r <;> rw [h]
  · exact habandon r
  · exact hfire r

/-- The two committed bits (10_state.md R29). -/
def Regs.ports (r : Regs) : Level × Level := (r.port0, r.port1)

theorem Regs.ports_eq_iff (r r' : Regs) : r.ports = r'.ports ↔ r.port0 = r'.port0 ∧ r.port1 = r'.port1 :=
  Prod.mk_inj

/-- Outside `W_END` no tick writes a port (40_session_controller.md R104). -/
theorem tickRegs_ports {p : Phase} (hp : p ≠ .wEnd) (i : Input) (r : Regs) : (tickRegs p i r).ports = r.ports := by
  cases p with
  | idle =>
    dsimp only [tickRegs, idleTick]
    split <;> rfl
  | smpL | smpT | smpS => exact awaitSample_keeps Regs.ports (by intros; rfl) i r
  | wSof | wLh | wTl | wTh | wSl | wSh =>
    exact awaitFrameClock_keeps Regs.ports (fun _ => rfl) (by intros; rfl) i r
  | wEnd => exact absurd rfl hp

/-- A step that is not the firing of `W_END` writes no port (40_session_controller.md R104). -/
theorem ports_of_step {s t : State} (h : step s = .next t) (hc : ¬(s.regs.phase = .wEnd ∧ s.sampled.att = false)) :
    t.regs.ports = s.regs.ports := by
  rw [regs_of_step h]
  by_cases hEnd : s.regs.phase = .wEnd
  · have ha : s.sampled.att = true := Bool.eq_true_of_not_eq_false fun ha => hc ⟨hEnd, ha⟩
    rw [hEnd]
    exact congrArg Regs.ports (wEndTick_stays s.regs ha)
  · exact tickRegs_ports hEnd _ _

/-- Settles O37: the firing of `W_END` commits, and no other tick writes a port. -/
theorem portsAreWrittenOnlyByTheCommit : Obligations.PortsAreWrittenOnlyByTheCommit := by
  intro s t h
  refine ⟨fun hEnd ha => ?_, fun hc => (Regs.ports_eq_iff _ _).mp (ports_of_step h hc)⟩
  rw [regs_of_step_commits h hEnd ha]
  exact ⟨rfl, rfl⟩

end Sys2Proof.Machine

namespace Sys2Proof.Machine

/-! ### What a wait phase answers (42_nibble_sequencer.md R140)

A wait phase is `awaitFrameClock` of the level it waits for and of what it does when it fires. Its three answers are
stated once for every wait phase, then for the phases that place a high nibble, which differ only in the reading and
in the phase that follows. -/

/-- The high half of a reading is the source's `v >> 4` (30_encoding.md R88). -/
theorem hi_eq_shiftRight (v : Reading) : hi v = (v >>> 4).setWidth 4 := by
  ext k hk
  simp [hi]

/-- A phase that waits for the level `b` progresses exactly at that level (10_state.md R30). -/
theorem go_of_want {p : Phase} {b : Level} (h : want p = some b) (i : Input) : go p i = (b == i.fc) := by
  simp [go, h]

/-- The three answers of a phase that waits for the level `b` and fires by `fire`. -/
theorem exec_of_awaitFrameClock {p : Phase} {b : Level} {fire : Input → Regs → Regs} (hwant : want p = some b)
    (htick : ∀ i r, tickRegs p i r = awaitFrameClock p (fire i) i r) (s : State) :
    (s.sampled.att = true → s.sampled.fc = b → exec p s = .next { s with regs := fire s.sampled s.regs }) ∧
    (s.sampled.att = true → s.sampled.fc = !b → exec p s = .next s) ∧
    (s.sampled.att = false → exec p s = .next { s with regs := s.regs.abandon }) := by
  have hgo := go_of_want hwant s.sampled
  rw [exec_eq, htick]
  refine ⟨fun ha hf => ?_, fun ha hf => ?_, fun ha => ?_⟩
  · rw [awaitFrameClock_fires p _ _ ha (by simp [hgo, hf])]
  · rw [awaitFrameClock_stays p _ _ ha (by simp [hgo, hf])]
  · rw [awaitFrameClock_abandons p _ _ ha]

/-- The three answers of a phase that waits for `FRAME_CLOCK` low, places the high nibble of `reading` and goes on to
`q` (42_nibble_sequencer.md R143, R145, R147). -/
theorem exec_placesHigh {p q : Phase} (reading : Regs → Reading) (hwant : want p = some false)
    (htick : ∀ i r, tickRegs p i r = awaitFrameClock p (fun r => (r.busDrive (hi (reading r))).goto q) i r)
    (s : State) :
    (s.sampled.att = true → s.sampled.fc = false →
      exec p s = .next { s with regs := { s.regs with
        busOut := (reading s.regs >>> 4).setWidth 4, busEn := true, phase := q } }) ∧
    (s.sampled.att = true → s.sampled.fc = true → exec p s = .next s) ∧
    (s.sampled.att = false →
      exec p s =
        .next { s with regs := { s.regs with rdyLow := false, busEn := false, busOut := 0xF, phase := .idle } }) := by
  rw [← hi_eq_shiftRight, ← abandon_eq]
  exact exec_of_awaitFrameClock hwant htick s

/-- Settles O9: `W_LH` places the high nibble of `LIGHT`. -/
theorem lightHighIsPlacedAtClockLow : Obligations.LightHighIsPlacedAtClockLow :=
  exec_placesHigh Regs.light rfl fun _ _ => rfl

/-- Settles O11: `W_TH` places the high nibble of `TEMP`. -/
theorem tempHighIsPlacedAtClockLow : Obligations.TempHighIsPlacedAtClockLow :=
  exec_placesHigh Regs.temp rfl fun _ _ => rfl

/-- Settles O13: `W_SH` places the high nibble of `SOUND`. -/
theorem soundHighIsPlacedAtClockLow : Obligations.SoundHighIsPlacedAtClockLow :=
  exec_placesHigh Regs.sound rfl fun _ _ => rfl

end Sys2Proof.Machine

namespace Sys2Proof.Machine

/-! ### Every step answers, and a hold ends only when it is lifted (43_engine_step.md R171, R185)

That a run answers the state of `ticks` is `step_eq_tickOf` repeated. The hold is read off the three moves of a tick: an
abandonment and a firing both lift it and both leave the phase. -/

/-- A run never stops on the way (43_engine_step.md R171). -/
theorem run_eq_ticks (n : Nat) (s : State) : Host.Core.run core n s = .next (ticks n s) := by
  induction n generalizing s with
  | zero => rfl
  | succ n ih =>
    have hstep : core.step s = .next (tickOf s) := step_eq_tickOf s
    simp only [Host.Core.run, hstep]
    exact ih (tickOf s)

/-- Settles O18: `exec_eq` for the operations, `step_eq_tickOf` for the step, and its repetition for the runs. -/
theorem stepAlwaysAnswersANextState : Obligations.StepAlwaysAnswersANextState :=
  ⟨fun op s => ⟨_, exec_eq op s⟩, fun s => ⟨_, step_eq_tickOf s⟩, run_eq_ticks⟩

/-- No phase is its own successor (10_state.md R25). -/
theorem nextPhase_ne_self (p : Phase) : nextPhase p ≠ p := by
  cases p <;> decide

/-- `IDLE` is not a wait phase, so an abandonment leaves its phase (60_exceptions.md R202). -/
theorem ne_idle_of_isWait {p : Phase} (h : isWait p = true) : p ≠ .idle := by
  rintro rfl
  exact absurd h (by decide)

/-- An abandonment lifts the hold, whatever `FRAME_CLOCK` is (60_exceptions.md R210). -/
theorem liftedBy_of_abandon {p : Phase} {i : Input} (hw : isWait p = true) (ha : i.att = false) :
    liftedBy p i = true := by
  simp [liftedBy_of_isWait hw, abortCond, ha]

/-- A move leaves the phase exactly when the hold is lifted (43_engine_step.md R185). -/
theorem PhaseMove.leaves_iff {p : Phase} {i : Input} {r r' : Regs} (h : PhaseMove p i r r') (hr : r.phase = p) :
    r'.phase ≠ p ↔ liftedBy p i = true := by
  cases h with
  | stays hold => simp [hr, hold]
  | abandons hw ha => exact iff_of_true (ne_idle_of_isWait hw).symm (liftedBy_of_abandon hw ha)
  | fires hl _ hp => exact iff_of_true (hp ▸ nextPhase_ne_self p) hl

/-- A move on inputs that do not lift the hold changes no register (43_engine_step.md R185). -/
theorem PhaseMove.eq_of_hold {p : Phase} {i : Input} {r r' : Regs} (h : PhaseMove p i r r')
    (hold : liftedBy p i = false) : r' = r := by
  cases h with
  | stays => rfl
  | abandons hw ha => exact absurd (liftedBy_of_abandon hw ha) (by simp [hold])
  | fires hl => exact absurd hl (by simp [hold])

/-- A tick that does not lift the hold changes no register (43_engine_step.md R185). -/
theorem tickOf_regs_of_hold {s : State} (hold : liftedBy s.regs.phase s.sampled = false) :
    (tickOf s).regs = s.regs :=
  (phaseMove_of_step (step_eq_tickOf s)).eq_of_hold hold

/-- As long as no tick lifts the hold, the registers stay (43_engine_step.md R185). -/
theorem ticks_regs_of_hold {s : State} {n : Nat}
    (hold : ∀ k, k < n → liftedBy s.regs.phase (sampledAt s k) = false) : (ticks n s).regs = s.regs := by
  induction n with
  | zero => rfl
  | succ n ih =>
    have hn : (ticks n s).regs = s.regs := ih fun k hk => hold k (Nat.lt_succ_of_lt hk)
    have hlast : liftedBy (ticks n s).regs.phase (ticks n s).sampled = false := by
      rw [hn]
      exact hold n (Nat.lt_succ_self n)
    rw [ticks_succ_last, tickOf_regs_of_hold hlast, hn]

/-- Settles O20, by the three moves of a tick and the induction over the ticks of a hold. -/
theorem holdLastsUntilItIsLifted : Obligations.HoldLastsUntilItIsLifted :=
  fun _ => ⟨fun _ h => (phaseMove_of_step h).leaves_iff rfl, fun _ => ticks_regs_of_hold⟩

end Sys2Proof.Machine

namespace Sys2Proof.Machine

/-! ### The firing of each phase, exactly (43_engine_step.md R170, R184)

`PhaseMove` says where a firing takes `PHASE`; `fireRegs` says all it writes. A tick is then one of three functions of
the registers, the same one for every state of the phase on the same inputs, so two states can be compared on it. -/

/-- The registers after the firing of phase `p` on the inputs `i`. -/
def fireRegs (p : Phase) (i : Input) (r : Regs) : Regs :=
  match p with
  | .idle => r.goto .smpL
  | .smpL => (r.latchLight i.adcVal).goto .smpT
  | .smpT => (r.latchTemp i.adcVal).goto .smpS
  | .smpS => ((r.latchSound i.adcVal).rdyPullLow).goto .wSof
  | .wSof => ((r.busDrive (lo r.light)).rdyRelease).goto .wLh
  | .wLh => (r.busDrive (hi r.light)).goto .wTl
  | .wTl => ((r.busDrive (lo r.temp)).capturePort0 (lineRead .dataReady i r)).goto .wTh
  | .wTh => (r.busDrive (hi r.temp)).goto .wSl
  | .wSl => ((r.busDrive (lo r.sound)).capturePort1 (lineRead .dataReady i r)).goto .wSh
  | .wSh => (r.busDrive (hi r.sound)).goto .wEnd
  | .wEnd => (r.commit.cleanup).goto .idle

/-- A sampling phase is `awaitSample` of its firing (41_sampling.md R120). -/
theorem tickRegs_of_adcRequest {p : Phase} (hp : adcRequest p = true) (i : Input) (r : Regs) :
    tickRegs p i r = awaitSample (fun _ => fireRegs p i) i r := by
  cases p with
  | smpL | smpT | smpS => rfl
  | _ => simp [adcRequest] at hp

/-- A wait phase is `awaitFrameClock` of its firing (42_nibble_sequencer.md R140). -/
theorem tickRegs_of_isWait {p : Phase} (hp : isWait p = true) (i : Input) (r : Regs) :
    tickRegs p i r = awaitFrameClock p (fireRegs p i) i r := by
  cases p with
  | wSof | wLh | wTl | wTh | wSl | wSh => rfl
  | _ => simp [isWait, want] at hp

/-- In a wait phase `att = 0` abandons (60_exceptions.md R202). -/
theorem tickRegs_abandons {p : Phase} (hp : isWait p = true) {i : Input} (ha : i.att = false) (r : Regs) :
    tickRegs p i r = r.abandon :=
  (tickRegs_of_isWait hp i r).trans (awaitFrameClock_abandons p _ r ha)

/-- Outside the wait phases a tick holds or fires. -/
theorem tickRegs_of_not_isWait {p : Phase} (hp : isWait p = false) (i : Input) (r : Regs) :
    tickRegs p i r = if liftedBy p i then fireRegs p i r else r := by
  cases p with
  | idle | smpL | smpT | smpS => rfl
  | wEnd => cases ha : i.att <;> simp [tickRegs, wEndTick, liftedBy, fireRegs, ha]
  | _ => simp [isWait, want] at hp

/-- All a tick can do: hold, abandon, or fire. -/
theorem tickRegs_cases (p : Phase) (i : Input) :
    (liftedBy p i = false ∧ ∀ r, tickRegs p i r = r) ∨
      (isWait p = true ∧ i.att = false ∧ ∀ r, tickRegs p i r = r.abandon) ∨
      (liftedBy p i = true ∧ (isWait p = true → i.att = true) ∧ ∀ r, tickRegs p i r = fireRegs p i r) := by
  cases hw : isWait p
  · cases hl : liftedBy p i
    · exact .inl ⟨rfl, fun r => by simp [tickRegs_of_not_isWait hw, hl]⟩
    · exact .inr (.inr ⟨rfl, nofun, fun r => by simp [tickRegs_of_not_isWait hw, hl]⟩)
  · have hl := liftedBy_of_isWait hw i
    have htick := tickRegs_of_isWait hw i
    cases ha : i.att
    · exact .inr (.inl ⟨rfl, rfl, tickRegs_abandons hw ha⟩)
    · cases hg : go p i
      · exact .inl ⟨by simp [hl, abortCond, ha, hg], fun r => (htick r).trans (awaitFrameClock_stays p _ r ha hg)⟩
      · exact .inr (.inr ⟨by simp [hl, hg], fun _ => rfl,
          fun r => (htick r).trans (awaitFrameClock_fires p _ r ha hg)⟩)

/-- A tick whose inputs lift the hold, and not by an abandonment, fires. -/
theorem tickRegs_fires {p : Phase} {i : Input} (hl : liftedBy p i = true) (ha : isWait p = true → i.att = true)
    (r : Regs) : tickRegs p i r = fireRegs p i r := by
  obtain ⟨hl', -⟩ | ⟨hw, ha', -⟩ | ⟨-, -, ht⟩ := tickRegs_cases p i
  · simp [hl] at hl'
  · simp [ha hw] at ha'
  · exact ht r

/-! What a firing writes, register by register (the column "Written in phase" of 10_state.md R20). -/

/-- A firing takes `PHASE` to its successor. -/
@[simp] theorem fireRegs_phase (p : Phase) (i : Input) (r : Regs) : (fireRegs p i r).phase = nextPhase p := by
  cases p <;> rfl

theorem fireRegs_light (p : Phase) (i : Input) (r : Regs) :
    (fireRegs p i r).light = if p = .smpL then i.adcVal else r.light := by
  cases p <;> rfl

theorem fireRegs_temp (p : Phase) (i : Input) (r : Regs) :
    (fireRegs p i r).temp = if p = .smpT then i.adcVal else r.temp := by
  cases p <;> rfl

theorem fireRegs_sound (p : Phase) (i : Input) (r : Regs) :
    (fireRegs p i r).sound = if p = .smpS then i.adcVal else r.sound := by
  cases p <;> rfl

theorem fireRegs_cap0 (p : Phase) (i : Input) (r : Regs) :
    (fireRegs p i r).cap0 = if p = .wTl then i.rdyExt && !r.rdyLow else r.cap0 := by
  cases p <;> rfl

theorem fireRegs_cap1 (p : Phase) (i : Input) (r : Regs) :
    (fireRegs p i r).cap1 = if p = .wSl then i.rdyExt && !r.rdyLow else r.cap1 := by
  cases p <;> rfl

theorem fireRegs_port0 (p : Phase) (i : Input) (r : Regs) :
    (fireRegs p i r).port0 = if p = .wEnd then r.cap0 else r.port0 := by
  cases p <;> rfl

theorem fireRegs_port1 (p : Phase) (i : Input) (r : Regs) :
    (fireRegs p i r).port1 = if p = .wEnd then r.cap1 else r.port1 := by
  cases p <;> rfl

/-- `SMP_S` pulls `DATA_READY` low, `W_SOF` and the cleanup of `W_END` release it (10_state.md R26). -/
theorem fireRegs_rdyLow (p : Phase) (i : Input) (r : Regs) :
    (fireRegs p i r).rdyLow =
      if p = .smpS then true else if p = .wSof ∨ p = .wEnd then false else r.rdyLow := by
  cases p <;> rfl

/-- The wait phases drive the bus, the cleanup of `W_END` releases it (10_state.md R27). -/
theorem fireRegs_busEn (p : Phase) (i : Input) (r : Regs) :
    (fireRegs p i r).busEn = if isWait p then true else if p = .wEnd then false else r.busEn := by
  cases p <;> rfl

/-! ### The invariants of the pin-control registers (43_engine_step.md R173, 40_session_controller.md R108) -/

/-- An abandonment leaves the pins as the pin invariant wants them in `IDLE`. -/
theorem pinsMatchPhase_abandon (r : Regs) : pinsMatchPhase r.abandon := ⟨rfl, rfl, rfl⟩

/-- A firing keeps the pin invariant: only `SMP_S` pulls `DATA_READY` low and only `W_SOF` releases it again, and each
wait phase places the nibble its successor holds. -/
theorem pinsMatchPhase_fireRegs {r : Regs} (h : pinsMatchPhase r) (i : Input) :
    pinsMatchPhase (fireRegs r.phase i r) := by
  obtain ⟨hrdy, hen, hout⟩ := h
  cases hp : r.phase <;> simp_all [pinsMatchPhase, heldNibble, fireRegs]

theorem pinsMatchPhase_tickRegs {r : Regs} (h : pinsMatchPhase r) (i : Input) :
    pinsMatchPhase (tickRegs r.phase i r) := by
  obtain ⟨-, ht⟩ | ⟨-, -, ht⟩ | ⟨-, -, ht⟩ := tickRegs_cases r.phase i <;> rw [ht]
  · exact h
  · exact pinsMatchPhase_abandon r
  · exact pinsMatchPhase_fireRegs h i

/-- Settles O27, by the three things a tick can do. -/
theorem stepKeepsPinsAFunctionOfPhase : Obligations.StepKeepsPinsAFunctionOfPhase := by
  intro s t h hst
  rw [regs_of_step hst]
  exact pinsMatchPhase_tickRegs h _

/-- The pin invariant holds along every run from a state that has it. -/
theorem pinsMatchPhase_ticks {s : State} (h : pinsMatchPhase s.regs) (n : Nat) : pinsMatchPhase (ticks n s).regs := by
  induction n with
  | zero => exact h
  | succ n ih =>
    rw [ticks_succ_last, tickOf_regs]
    exact pinsMatchPhase_tickRegs ih _

/-- Settles O26: `IDLE` is entered by a release of both lines only, the abandonment or the firing of `W_END`. -/
theorem stepKeepsTheIdleInvariant : Obligations.StepKeepsTheIdleInvariant := by
  intro s t h hst
  rw [regs_of_step hst]
  obtain ⟨-, ht⟩ | ⟨-, -, ht⟩ | ⟨-, -, ht⟩ := tickRegs_cases s.regs.phase s.sampled <;> rw [ht]
  · exact h
  · exact fun _ => ⟨rfl, rfl, rfl⟩
  · intro hidle
    rw [fireRegs_phase, nextPhase_eq_idle_iff] at hidle
    rw [hidle]
    exact ⟨rfl, rfl, rfl⟩

/-! ### Written before read (43_engine_step.md R178) -/

/-- In `IDLE` no data register is live, and both releases write the same. -/
theorem agreeOnLive_abandon {a b : Regs} (h : AgreeOnLive a b) : AgreeOnLive a.abandon b.abandon :=
  ⟨rfl, h.port0, h.port1, rfl, rfl, rfl, nofun, nofun, nofun, nofun, nofun⟩

/-- A register that is live after a firing was written by it or live before it. -/
theorem live_of_nextPhase (p : Phase) :
    (lightLive (nextPhase p) = true → p ≠ .smpL → lightLive p = true) ∧
    (tempLive (nextPhase p) = true → p ≠ .smpT → tempLive p = true) ∧
    (soundLive (nextPhase p) = true → p ≠ .smpS → soundLive p = true) ∧
    (cap0Live (nextPhase p) = true → p ≠ .wTl → cap0Live p = true) ∧
    (cap1Live (nextPhase p) = true → p ≠ .wSl → cap1Live p = true) := by
  cases p <;> decide

/-- The reading whose half a wait phase places is live in that phase. -/
theorem fireRegs_busOut_congr {a b : Regs} (h : AgreeOnLive a b) (i : Input) :
    (fireRegs a.phase i a).busOut = (fireRegs a.phase i b).busOut := by
  obtain ⟨-, -, -, -, -, hout, hl, ht, hs, -, -⟩ := h
  cases hp : a.phase with
  | idle | smpL | smpT | smpS => exact hout
  | wSof => exact congrArg lo (hl (hp ▸ rfl))
  | wLh => exact congrArg hi (hl (hp ▸ rfl))
  | wTl => exact congrArg lo (ht (hp ▸ rfl))
  | wTh => exact congrArg hi (ht (hp ▸ rfl))
  | wSl => exact congrArg lo (hs (hp ▸ rfl))
  | wSh => exact congrArg hi (hs (hp ▸ rfl))
  | wEnd => rfl

/-- A firing keeps the agreement: what it reads is live, and what becomes live is what it writes. -/
theorem agreeOnLive_fireRegs {a b : Regs} (h : AgreeOnLive a b) (i : Input) :
    AgreeOnLive (fireRegs a.phase i a) (fireRegs a.phase i b) := by
  obtain ⟨light, temp, sound, cap0, cap1⟩ := live_of_nextPhase a.phase
  have hEnd0 : a.phase = .wEnd → a.cap0 = b.cap0 := fun hp => h.cap0 (hp ▸ rfl)
  have hEnd1 : a.phase = .wEnd → a.cap1 = b.cap1 := fun hp => h.cap1 (hp ▸ rfl)
  constructor
  case busOut => exact fireRegs_busOut_congr h i
  case phase => rw [fireRegs_phase, fireRegs_phase]
  all_goals
    simp only [fireRegs_phase, fireRegs_light, fireRegs_temp, fireRegs_sound, fireRegs_cap0, fireRegs_cap1,
      fireRegs_port0, fireRegs_port1, fireRegs_rdyLow, fireRegs_busEn, h.rdyLow, h.busEn, h.port0, h.port1]
  case port0 => exact ite_congr rfl hEnd0 fun _ => rfl
  case port1 => exact ite_congr rfl hEnd1 fun _ => rfl
  case light => exact fun hlive => ite_congr rfl (fun _ => rfl) fun hp => h.light (light hlive hp)
  case temp => exact fun hlive => ite_congr rfl (fun _ => rfl) fun hp => h.temp (temp hlive hp)
  case sound => exact fun hlive => ite_congr rfl (fun _ => rfl) fun hp => h.sound (sound hlive hp)
  case cap0 => exact fun hlive => ite_congr rfl (fun _ => rfl) fun hp => h.cap0 (cap0 hlive hp)
  case cap1 => exact fun hlive => ite_congr rfl (fun _ => rfl) fun hp => h.cap1 (cap1 hlive hp)

theorem agreeOnLive_tickRegs {a b : Regs} (h : AgreeOnLive a b) (i : Input) :
    AgreeOnLive (tickRegs a.phase i a) (tickRegs b.phase i b) := by
  rw [← h.phase]
  obtain ⟨-, ht⟩ | ⟨-, -, ht⟩ | ⟨-, -, ht⟩ := tickRegs_cases a.phase i <;> rw [ht, ht]
  · exact h
  · exact agreeOnLive_abandon h
  · exact agreeOnLive_fireRegs h i

/-- The outputs read live registers only. -/
theorem out_congr {a b : Regs} (h : AgreeOnLive a b) : out a = out b := by
  simp only [out, busLevel, h.phase, h.port0, h.port1, h.rdyLow, h.busEn, h.busOut]

theorem sampled_congr {s t : State} (hinputs : s.inputs = t.inputs) (htick : s.tick = t.tick) :
    s.sampled = t.sampled := by
  simp only [State.sampled, hinputs, htick]

/-- The same inputs to come, the same tick, and registers that agree on what is live. -/
structure SameRun (s t : State) : Prop where
  regs : AgreeOnLive s.regs t.regs
  inputs : s.inputs = t.inputs
  tick : s.tick = t.tick

theorem sameRun_tickOf {s t : State} (h : SameRun s t) : SameRun (tickOf s) (tickOf t) where
  regs := by
    rw [tickOf_regs, tickOf_regs, ← sampled_congr h.inputs h.tick]
    exact agreeOnLive_tickRegs h.regs s.sampled
  inputs := by rw [tickOf_inputs, tickOf_inputs, h.inputs]
  tick := by rw [tickOf_tick, tickOf_tick, h.tick]

theorem sameRun_ticks {s t : State} (h : SameRun s t) (n : Nat) : SameRun (ticks n s) (ticks n t) := by
  induction n with
  | zero => exact h
  | succ n ih =>
    rw [ticks_succ_last, ticks_succ_last]
    exact sameRun_tickOf ih

/-- Settles O31, by the three things a tick can do, which both states do alike. -/
theorem staleDataIsNeverObserved : Obligations.StaleDataIsNeverObserved := by
  intro s t s' t' hregs hinputs htick hs ht
  rw [step_next_iff] at hs ht
  subst hs ht
  have h : SameRun (tickOf s) (tickOf t) := sameRun_tickOf ⟨hregs, hinputs, htick⟩
  exact ⟨h.regs, h.inputs, h.tick, out_congr h.regs⟩

/-- In `IDLE` none of the five data registers is live (10_state.md R40). -/
theorem agreeOnLive_resetWithData (l l' t t' s s' : Reading) (c c' d d' : Level) :
    AgreeOnLive (resetWithData l t s c d) (resetWithData l' t' s' c' d') :=
  ⟨rfl, rfl, rfl, rfl, rfl, rfl, nofun, nofun, nofun, nofun, nofun⟩

/-- Settles O32, by the agreement on what is live along the two runs. -/
theorem unspecifiedResetValuesAreUnobservable : Obligations.UnspecifiedResetValuesAreUnobservable := by
  intro inputs tick n l l' t t' s s' c c' d d'
  have h : SameRun ⟨resetWithData l t s c d, inputs, tick⟩ ⟨resetWithData l' t' s' c' d', inputs, tick⟩ :=
    ⟨agreeOnLive_resetWithData .., rfl, rfl⟩
  exact out_congr (sameRun_ticks h n).regs

end Sys2Proof.Machine

namespace Sys2Proof.Machine

/-! ### The ticks of a session (00_scope.md R12, R13)

Inside a session a tick holds its phase or fires it, and `W_END` does not fire: an abandonment or the firing of `W_END`
would leave the session. Each property of a session is an induction over its ticks with these two cases. -/

/-- A tick that fires does what the firing of its phase does, and its inputs lift the hold without an abandonment. -/
theorem fires_iff (s : State) :
    fires s = true ↔ liftedBy s.regs.phase s.sampled = true ∧ (isWait s.regs.phase = true → s.sampled.att = true) := by
  have hregs := tickOf_regs s
  obtain ⟨hl, ht⟩ | ⟨hw, ha, ht⟩ | ⟨hl, ha, ht⟩ := tickRegs_cases s.regs.phase s.sampled <;> rw [ht] at hregs
  · simp [fires, hregs, hl, (nextPhase_ne_self _).symm]
  · have hne : nextPhase s.regs.phase ≠ .idle := fun h => by
      simp [(nextPhase_eq_idle_iff _).mp h, isWait, want] at hw
    simp [fires, hregs, hw, ha, hne.symm]
  · simpa [fires, hregs, hl] using ha

theorem tickOf_regs_of_fires {s : State} (h : fires s = true) :
    (tickOf s).regs = fireRegs s.regs.phase s.sampled s.regs := by
  obtain ⟨hl, ha⟩ := (fires_iff s).mp h
  rw [tickOf_regs]
  exact tickRegs_fires hl ha _

/-- What a tick of a session does. -/
inductive SessionTick (s : State) (n : Nat) : Prop where
  /-- The phase holds. -/
  | holds (hold : liftedBy (phaseAt s n) (sampledAt s n) = false) (notFired : fires (ticks n s) = false)
      (regs : (ticks (n + 1) s).regs = (ticks n s).regs)
  /-- The phase fires, and is not the last one. -/
  | advances (notEnd : phaseAt s n ≠ .wEnd) (fired : fires (ticks n s) = true)
      (regs : (ticks (n + 1) s).regs = fireRegs (phaseAt s n) (sampledAt s n) (ticks n s).regs)

theorem inSession_of_le {s : State} {m n : Nat} (h : inSession s n) (hmn : m ≤ n) : inSession s m :=
  fun k hk => h k (hk.trans hmn)

theorem inSession_succ {s : State} {n : Nat} (h : inSession s n) (hn : phaseAt s (n + 1) ≠ .idle) :
    inSession s (n + 1) := by
  intro k hk
  obtain hk | rfl := Nat.le_succ_iff.mp hk
  · exact h k hk
  · exact hn

theorem regs_succ_of_fires {s : State} {n : Nat} (h : fires (ticks n s) = true) :
    (ticks (n + 1) s).regs = fireRegs (phaseAt s n) (sampledAt s n) (ticks n s).regs := by
  rw [ticks_succ_last]
  exact tickOf_regs_of_fires h

theorem phaseAt_succ_of_fires {s : State} {n : Nat} (h : fires (ticks n s) = true) :
    phaseAt s (n + 1) = nextPhase (phaseAt s n) := by
  rw [phaseAt, regs_succ_of_fires h, fireRegs_phase]

theorem phaseAt_ne_wEnd_of_fires {s : State} {n : Nat} (h : fires (ticks n s) = true)
    (hn : phaseAt s (n + 1) ≠ .idle) : phaseAt s n ≠ .wEnd := by
  intro hEnd
  rw [phaseAt_succ_of_fires h, hEnd] at hn
  exact hn rfl

/-- All a tick of a session can do. -/
theorem sessionTick {s : State} {n : Nat} (h : inSession s (n + 1)) : SessionTick s n := by
  have hnext := h (n + 1) le_rfl
  cases hf : fires (ticks n s)
  · have hregs : (ticks (n + 1) s).regs = tickRegs (phaseAt s n) (sampledAt s n) (ticks n s).regs := by
      rw [ticks_succ_last, tickOf_regs]; rfl
    obtain ⟨hl, ht⟩ | ⟨-, -, ht⟩ | ⟨hl, ha, -⟩ := tickRegs_cases (phaseAt s n) (sampledAt s n)
    · exact .holds hl hf (hregs.trans (ht _))
    · rw [phaseAt, hregs, ht] at hnext
      exact absurd rfl hnext
    · exact absurd ((fires_iff (ticks n s)).mpr ⟨hl, ha⟩) (by simp [hf])
  · exact .advances (phaseAt_ne_wEnd_of_fires hf hnext) hf (regs_succ_of_fires hf)

/-! ### Firings of a session (43_engine_step.md R179, R181, R182) -/

/-- The codes of 30_encoding.md R80 number the phases in the order of 10_state.md R25. -/
theorem phaseIndex_nextPhase {p : Phase} (h : p ≠ .wEnd) : phaseIndex (nextPhase p) = phaseIndex p + 1 := by
  revert h; cases p <;> decide

/-- Each operation's code reads back (30_encoding.md R80). -/
theorem decode_encode (i : Instr) : decode (encode i) = .ok i := by
  cases i <;> rfl

theorem encode_injective {i j : Instr} (h : encode i = encode j) : i = j := by
  have hd := (decode_encode i).symm.trans ((congrArg decode h).trans (decode_encode j))
  exact Except.ok.inj hd

theorem phaseIndex_injective {p q : Phase} (h : phaseIndex p = phaseIndex q) : p = q :=
  encode_injective (BitVec.eq_of_toNat_eq h)

/-- `SMP_L` is the first phase of a session. -/
theorem phaseIndex_smpL_le {p : Phase} (h : p ≠ .idle) : phaseIndex .smpL ≤ phaseIndex p := by
  revert h; cases p <;> decide

/-- The last tick of a count split off. -/
theorem firingCount_succ_last (p : Phase) (n : Nat) (s : State) :
    firingCount p (n + 1) s =
      firingCount p n s + if phaseAt s n == p && fires (ticks n s) then 1 else 0 := by
  induction n generalizing s with
  | zero => simp [firingCount, phaseAt, ticks]
  | succ n ih => rw [firingCount, ih, firingCount, Nat.add_assoc]; rfl

/-- Settles O35, by induction over the ticks of the session: a hold adds no firing, an advance that of the phase it
leaves. -/
theorem eachPhaseFiresOnceASession : Obligations.EachPhaseFiresOnceASession := by
  intro s n p hs h hp
  induction n with
  | zero =>
    rw [phaseAt, ticks_zero, hs, if_neg (phaseIndex_smpL_le hp).not_gt]
    rfl
  | succ n ih =>
    rw [firingCount_succ_last, ih (inSession_of_le h n.le_succ)]
    cases sessionTick h with
    | holds _ hf hregs =>
      have hphase : phaseAt s (n + 1) = phaseAt s n := congrArg Regs.phase hregs
      simp [hf, hphase]
    | advances hEnd hf hregs =>
      rw [phaseAt_succ_of_fires hf, phaseIndex_nextPhase hEnd, hf, Bool.and_true]
      by_cases heq : phaseAt s n = p
      · simp [heq]
      · have hne : phaseIndex (phaseAt s n) ≠ phaseIndex p := fun h => heq (phaseIndex_injective h)
        have : phaseIndex p < phaseIndex (phaseAt s n) + 1 ↔ phaseIndex p < phaseIndex (phaseAt s n) := by omega
        simp [heq, this]

/-! ### Nibbles of a session (43_engine_step.md R175) -/

/-- The low half of a reading is the source's `v & 0xF` (30_encoding.md R88). -/
theorem lo_eq_and (v : Reading) : lo v = (v &&& 0x0F).setWidth 4 := by
  have hand : v.toNat &&& (0x0F : Reading).toNat = v.toNat % 16 := Nat.and_two_pow_sub_one_eq_mod v.toNat 4
  apply BitVec.eq_of_toNat_eq
  rw [lo_toNat, BitVec.toNat_setWidth, BitVec.toNat_and, hand]
  omega

/-- The frame of the readings latched in the registers (30_encoding.md R82). -/
def Regs.frame (r : Regs) : List Nibble := frameOf r.light r.temp r.sound

theorem Regs.frame_eq (r : Regs) :
    r.frame = [lo r.light, hi r.light, lo r.temp, hi r.temp, lo r.sound, hi r.sound] := by
  simp only [frame, frameOf, lo_eq_and, hi_eq_shiftRight]

/-- The last tick of the nibbles placed split off. -/
theorem nibblesPlaced_succ_last (n : Nat) (s : State) :
    nibblesPlaced (n + 1) s = nibblesPlaced n s ++ placed (ticks n s) := by
  induction n generalizing s with
  | zero => simp [nibblesPlaced, ticks]
  | succ n ih => rw [nibblesPlaced, ih, nibblesPlaced, List.append_assoc]; rfl

/-- A wait phase places the next nibble of the frame and leaves the readings alone. -/
theorem take_frame_fireRegs_of_isWait {p : Phase} (hp : isWait p = true) (i : Input) (r : Regs) :
    (fireRegs p i r).frame.take (placedBefore (nextPhase p)) =
      r.frame.take (placedBefore p) ++ [(fireRegs p i r).busOut] := by
  cases p with
  | wSof | wLh | wTl | wTh | wSl | wSh => rw [Regs.frame_eq, Regs.frame_eq]; rfl
  | _ => simp [isWait, want] at hp

/-- Up to `W_SOF` no nibble has been placed. -/
theorem placedBefore_nextPhase_of_not_isWait {p : Phase} (hp : isWait p = false) (hEnd : p ≠ .wEnd) :
    placedBefore p = 0 ∧ placedBefore (nextPhase p) = 0 := by
  revert hp hEnd; cases p <;> decide

/-- The nibbles placed up to a tick of a session are the beginning of the frame that belongs to the phase. -/
theorem nibblesPlaced_eq_take_frame {s : State} {n : Nat} (hs : s.regs.phase = .smpL) (h : inSession s n) :
    nibblesPlaced n s = (ticks n s).regs.frame.take (placedBefore (phaseAt s n)) := by
  induction n with
  | zero => rw [phaseAt, ticks_zero, hs]; rfl
  | succ n ih =>
    rw [nibblesPlaced_succ_last, ih (inSession_of_le h n.le_succ)]
    cases sessionTick h with
    | holds _ hf hregs => simp [phaseAt, hregs, placed, hf]
    | advances hEnd hf hregs =>
      rw [phaseAt_succ_of_fires hf, hregs]
      cases hw : isWait (phaseAt s n)
      · obtain ⟨h0, h1⟩ := placedBefore_nextPhase_of_not_isWait hw hEnd
        have hw' : isWait (ticks n s).regs.phase = false := hw
        simp [h0, h1, placed, hw']
      · have hplaced : placed (ticks n s) = [(ticks (n + 1) s).regs.busOut] := by
          have hw' : isWait (ticks n s).regs.phase = true := hw
          rw [placed, hw', hf, ticks_succ_last]; rfl
        rw [take_frame_fireRegs_of_isWait hw, hplaced, hregs]

/-- Settles O33: the beginning of the frame that belongs to `W_END` is the whole frame. -/
theorem sessionPlacesTheFrameInOrder : Obligations.SessionPlacesTheFrameInOrder := by
  intro s n hs h
  have hplaced := nibblesPlaced_eq_take_frame hs h
  refine ⟨hplaced, fun hEnd => ?_⟩
  rw [hplaced, hEnd]
  rfl

/-! ### What a session writes once stays (43_engine_step.md R175 to R177) -/

/-- A session does not go back in the order of the phases. -/
theorem phaseIndex_le_of_inSession {s : State} {m n : Nat} (hmn : m ≤ n) (h : inSession s n) :
    phaseIndex (phaseAt s m) ≤ phaseIndex (phaseAt s n) := by
  induction n, hmn using Nat.le_induction with
  | base => exact le_rfl
  | succ n _ ih =>
    have hle := ih (inSession_of_le h n.le_succ)
    cases sessionTick h with
    | holds _ _ hregs => rwa [show phaseAt s (n + 1) = phaseAt s n from congrArg Regs.phase hregs]
    | advances hEnd hf _ =>
      rw [phaseAt_succ_of_fires hf, phaseIndex_nextPhase hEnd]
      exact hle.trans (Nat.le_succ _)

section Kept

variable {α : Type} {f : Regs → α} {p : Phase} (hf : ∀ q i r, q ≠ p → q ≠ .wEnd → f (fireRegs q i r) = f r)
include hf

/-- A part `f` of the registers that only phase `p` and the commit write stays once the session is past `p`. -/
theorem kept_of_past {s : State} {m n : Nat} (hmn : m ≤ n) (h : inSession s n)
    (hpast : phaseIndex p < phaseIndex (phaseAt s m)) : f (ticks n s).regs = f (ticks m s).regs := by
  induction n, hmn using Nat.le_induction with
  | base => rfl
  | succ n hmn ih =>
    have hn := inSession_of_le h n.le_succ
    rw [← ih hn]
    cases sessionTick h with
    | holds _ _ hregs => rw [hregs]
    | advances hEnd _ hregs =>
      rw [hregs]
      refine hf _ _ _ (fun heq => ?_) hEnd
      have hle := phaseIndex_le_of_inSession hmn hn
      rw [heq] at hle
      exact absurd hpast hle.not_gt

/-- A part `f` of the registers that only phase `p` and the commit write stays what the firing of `p` left. -/
theorem kept_since_firing {s : State} {m n : Nat} (hmn : m < n) (h : inSession s n) (hp : phaseAt s m = p)
    (hfires : fires (ticks m s) = true) :
    f (ticks n s).regs = f (fireRegs p (sampledAt s m) (ticks m s).regs) := by
  have hEnd := phaseAt_ne_wEnd_of_fires hfires (h (m + 1) hmn)
  rw [kept_of_past hf hmn h, regs_succ_of_fires hfires, hp]
  rw [phaseAt_succ_of_fires hfires, phaseIndex_nextPhase hEnd, hp]
  exact Nat.lt_succ_self _

end Kept

/-- Settles O34: each reading is written by its own sampling phase alone. -/
theorem sensorFrameIsFixedOnceSampled : Obligations.SensorFrameIsFixedOnceSampled := by
  intro s m n _ h hmn hfires
  refine ⟨fun hp => ?_, fun hp => ?_, fun hp => ?_⟩
  · exact kept_since_firing (f := Regs.light) (fun q i r hq _ => by simp [fireRegs_light, hq]) hmn h hp hfires
  · exact kept_since_firing (f := Regs.temp) (fun q i r hq _ => by simp [fireRegs_temp, hq]) hmn h hp hfires
  · exact kept_since_firing (f := Regs.sound) (fun q i r hq _ => by simp [fireRegs_sound, hq]) hmn h hp hfires

/-- `RDY_LOW` in a session that began with `before` in it: written by `SMP_S` and by `W_SOF` (10_state.md R26). -/
def sessionRdyLow (before : Level) (p : Phase) : Level := if adcRequest p then before else p == .wSof

theorem rdyLow_fireRegs {before : Level} {r : Regs} (h : r.rdyLow = sessionRdyLow before r.phase)
    (hIdle : r.phase ≠ .idle) (hEnd : r.phase ≠ .wEnd) (i : Input) :
    (fireRegs r.phase i r).rdyLow = sessionRdyLow before (nextPhase r.phase) := by
  rw [fireRegs_rdyLow, h]
  revert hIdle hEnd
  cases r.phase <;> simp [sessionRdyLow, nextPhase, adcRequest]

theorem rdyLow_of_inSession {s : State} {n : Nat} (hs : s.regs.phase = .smpL) (h : inSession s n) :
    (ticks n s).regs.rdyLow = sessionRdyLow s.regs.rdyLow (phaseAt s n) := by
  induction n with
  | zero => rw [phaseAt, ticks_zero, hs]; rfl
  | succ n ih =>
    have hn := inSession_of_le h n.le_succ
    cases sessionTick h with
    | holds _ _ hregs => rw [phaseAt, hregs]; exact ih hn
    | advances hEnd hf hregs =>
      rw [phaseAt_succ_of_fires hf, hregs]
      exact rdyLow_fireRegs (ih hn) (hn n le_rfl) hEnd _

/-- Settles O38: each capture stays from its window to the commit, and `DATA_READY` is released at both windows. -/
theorem commitDeliversTheBitsOfTheWindows : Obligations.CommitDeliversTheBitsOfTheWindows := by
  intro s a b c hs h ha hfa hac hb hfb hbc hc hatt
  have hcap0 : (ticks c s).regs.cap0 = (sampledAt s a).rdyExt := by
    have hrdy := rdyLow_of_inSession hs (inSession_of_le h hac.le)
    rw [ha] at hrdy
    rw [kept_since_firing (f := Regs.cap0) (fun q i r hq _ => by simp [fireRegs_cap0, hq]) hac h ha hfa,
      fireRegs_cap0, hrdy]
    simp [sessionRdyLow, adcRequest]
  have hcap1 : (ticks c s).regs.cap1 = (sampledAt s b).rdyExt := by
    have hrdy := rdyLow_of_inSession hs (inSession_of_le h hbc.le)
    rw [hb] at hrdy
    rw [kept_since_firing (f := Regs.cap1) (fun q i r hq _ => by simp [fireRegs_cap1, hq]) hbc h hb hfb,
      fireRegs_cap1, hrdy]
    simp [sessionRdyLow, adcRequest]
  have hend : (ticks (c + 1) s).regs = _ :=
    (congrArg State.regs (ticks_succ_last c s)).trans (regs_of_step_commits (step_eq_tickOf _) hc hatt)
  rw [phaseAt, hend]
  exact ⟨rfl, hcap0, hcap1⟩

/-- Settles O39: no phase before `W_END` writes a port, and neither does the abandonment. -/
theorem abandonedSessionLeavesThePorts : Obligations.AbandonedSessionLeavesThePorts := by
  intro s n hs h hmem hatt
  have hkept : (ticks n s).regs.ports = s.regs.ports := by
    refine kept_of_past (p := .idle) (fun q i r _ hEnd => ?_) n.zero_le h (phaseIndex_smpL_le (h 0 n.zero_le))
    simp [Regs.ports, fireRegs_port0, fireRegs_port1, hEnd]
  have hregs : (ticks (n + 1) s).regs = (ticks n s).regs.abandon := by
    rw [ticks_succ_last, tickOf_regs]
    exact tickRegs_abandons ((isWait_iff_mem _).mpr hmem) hatt _
  rw [phaseAt, hregs]
  exact ⟨rfl, (Regs.ports_eq_iff _ _).mp hkept⟩

end Sys2Proof.Machine

namespace Sys2Proof.Machine

/-! ### Edges of FRAME_CLOCK, and the length of a session (42_nibble_sequencer.md R142, 43_engine_step.md R183) -/

theorem isWait_of_want {p : Phase} {b : Level} (h : want p = some b) : isWait p = true := by
  rw [isWait, h]; rfl

/-- A wait phase fires at the level of `FRAME_CLOCK` it waits for. -/
theorem fc_of_fires {s : State} {b : Level} (hw : want s.regs.phase = some b) (hf : fires s = true) :
    s.sampled.fc = b := by
  obtain ⟨hl, ha⟩ := (fires_iff s).mp hf
  have hwait := isWait_of_want hw
  rw [liftedBy_of_isWait hwait, abortCond, ha hwait, go_of_want hw] at hl
  have hb : b = s.sampled.fc := by simpa using hl
  exact hb.symm

/-- A wait phase that holds sees the other level of `FRAME_CLOCK`. -/
theorem fc_of_hold {p : Phase} {i : Input} {b : Level} (hw : want p = some b) (hold : liftedBy p i = false) :
    i.fc = !b := by
  rw [liftedBy_of_isWait (isWait_of_want hw), Bool.or_eq_false_iff, go_of_want hw] at hold
  cases b <;> simpa using hold.2

/-- The wait phases alternate between the levels they wait for; the first comes after `SMP_S`. -/
theorem want_of_want_nextPhase {p : Phase} {b : Level} (h : want (nextPhase p) = some b) :
    (p = .smpS ∧ b = true) ∨ want p = some (!b) := by
  revert h; cases p <;> cases b <;> decide

/-- Settles O36, by what the tick before did: it held the phase at the other level, or it fired the wait phase before,
which waits for the other level, or it fired `SMP_S`, where the duty asks for the other level. -/
theorem nibblesArePlacedOnClockEdges : Obligations.NibblesArePlacedOnClockEdges := by
  intro s k _ h hduty hwait hfires
  obtain ⟨b, hb⟩ := Option.isSome_iff_exists.mp hwait
  have hfc : (sampledAt s (k + 1)).fc = b := fc_of_fires hb hfires
  suffices (sampledAt s k).fc = !b by rw [hfc, this, Bool.not_not]
  cases sessionTick h with
  | holds hold _ hregs =>
    rw [show phaseAt s (k + 1) = phaseAt s k from congrArg Regs.phase hregs] at hb
    exact fc_of_hold hb hold
  | advances _ hf _ =>
    have hnext := phaseAt_succ_of_fires hf
    rw [hnext] at hb
    obtain ⟨hp, rfl⟩ | hwant := want_of_want_nextPhase hb
    · rw [hp] at hnext
      exact hduty hnext k (inSession_of_le h k.le_succ) (by rw [hp]; rfl)
    · exact fc_of_fires hwant hf

theorem phaseIndex_nextPhase_le (p : Phase) : phaseIndex (nextPhase p) ≤ phaseIndex p + 1 := by
  cases p <;> decide

/-- A tick takes `PHASE` at most one place on. -/
theorem phaseIndex_tickOf_le (s : State) : phaseIndex (tickOf s).regs.phase ≤ phaseIndex s.regs.phase + 1 := by
  rw [tickOf_regs]
  obtain ⟨-, ht⟩ | ⟨-, -, ht⟩ | ⟨-, -, ht⟩ := tickRegs_cases s.regs.phase s.sampled <;> rw [ht]
  · exact Nat.le_succ _
  · exact Nat.zero_le _
  · rw [fireRegs_phase]
    exact phaseIndex_nextPhase_le _

theorem phaseIndex_le_of_idle {s : State} (hs : s.regs.phase = .idle) (n : Nat) : phaseIndex (phaseAt s n) ≤ n := by
  induction n with
  | zero => rw [phaseAt, ticks_zero, hs]; exact le_rfl
  | succ n ih =>
    rw [phaseAt, ticks_succ_last]
    exact (phaseIndex_tickOf_le _).trans (Nat.succ_le_succ ih)

/-- Settles O40: `W_END` is ten places after `IDLE`. -/
theorem noSessionIsShorterThanElevenTicks : Obligations.NoSessionIsShorterThanElevenTicks := by
  intro s n hs hEnd
  have hle := phaseIndex_le_of_idle hs n
  rw [hEnd] at hle
  exact Nat.succ_le_succ hle

/-! ### Progress (60_exceptions.md R227, 70_reset_and_hazards.md R250 to R254)

A duty brings an input that lifts the hold, and the first such input ends it. So a session goes from the tick at which
it enters a phase to the tick at which it enters the next one. -/

/-- A hold that is lifted at some tick is lifted at a first one, and until then no register changes. -/
theorem hold_until_lifted {s : State} {k j : Nat} (hl : liftedBy (phaseAt s k) (sampledAt s (k + j)) = true) :
    ∃ i ≤ j, (∀ d ≤ i, (ticks (k + d) s).regs = (ticks k s).regs) ∧
      liftedBy (phaseAt s k) (sampledAt s (k + i)) = true := by
  have hex : ∃ i, liftedBy (phaseAt s k) (sampledAt s (k + i)) = true := ⟨j, hl⟩
  refine ⟨Nat.find hex, Nat.find_min' hex hl, fun d hd => ?_, Nat.find_spec hex⟩
  rw [ticks_add]
  refine ticks_regs_of_hold fun i hi => ?_
  have hnot := Nat.find_min hex (hi.trans_le hd)
  rw [sampledAt, ← ticks_add]
  exact Bool.eq_false_iff.mpr hnot

/-- The session enters phase `p` at tick `k`. -/
structure Enters (s : State) (p : Phase) (k : Nat) : Prop where
  session : inSession s k
  phase : phaseAt s k = p
  first : ∀ j, j + 1 = k → phaseAt s j ≠ phaseAt s k

theorem enters_smpL {s : State} (hs : s.regs.phase = .smpL) : Enters s .smpL 0 where
  session k hk := by
    obtain rfl := Nat.le_zero.mp hk
    rw [phaseAt, ticks_zero, hs]
    decide
  phase := hs
  first := nofun

theorem Enters.ne_idle {s : State} {p : Phase} {k : Nat} (h : Enters s p k) : p ≠ .idle :=
  h.phase ▸ h.session k le_rfl

/-- While the phase holds the session stays open. -/
theorem inSession_of_hold {s : State} {k i : Nat} (h : inSession s k)
    (hold : ∀ d ≤ i, (ticks (k + d) s).regs = (ticks k s).regs) : inSession s (k + i) := by
  intro n hn
  obtain hk | hk := le_total n k
  · exact h n hk
  · obtain ⟨d, rfl⟩ := Nat.exists_eq_add_of_le hk
    rw [phaseAt, hold d (Nat.add_le_add_iff_left.mp hn)]
    exact h k le_rfl

/-- A phase that is entered, lifted `j` ticks later and not abandoned, is left for its successor by then. -/
theorem Enters.advances {s : State} {p : Phase} {k j : Nat} (h : Enters s p k) (hEnd : p ≠ .wEnd)
    (hl : liftedBy p (sampledAt s (k + j)) = true)
    (hatt : isWait p = true → ∀ n, inSession s n → phaseAt s n = p → (sampledAt s n).att = true) :
    ∃ i ≤ j, Enters s (nextPhase p) (k + i + 1) := by
  obtain ⟨hsession, rfl, -⟩ := h
  obtain ⟨i, hij, hold, hli⟩ := hold_until_lifted hl
  have hi : inSession s (k + i) := inSession_of_hold hsession hold
  have hphase : phaseAt s (k + i) = phaseAt s k := congrArg Regs.phase (hold i le_rfl)
  have hf : fires (ticks (k + i) s) = true := by
    refine (fires_iff _).mpr ?_
    rw [show (ticks (k + i) s).regs.phase = _ from hphase]
    exact ⟨hli, fun hw => hatt hw _ hi hphase⟩
  have hnext := hphase ▸ phaseAt_succ_of_fires hf
  refine ⟨i, hij, inSession_succ hi ?_, hnext, fun j hj => ?_⟩
  · rw [hnext, Ne, nextPhase_eq_idle_iff]
    exact hEnd
  · obtain rfl := Nat.succ_injective hj
    rw [hnext, hphase]
    exact (nextPhase_ne_self _).symm

/-- An answered sampling phase is left for its successor by then. -/
theorem Enters.answered {s : State} {p : Phase} {k j : Nat} (h : Enters s p k) (hp : adcRequest p = true)
    (hd : (sampledAt s (k + j)).adcDone = true) : ∃ i ≤ j, Enters s (nextPhase p) (k + i + 1) := by
  refine h.advances ?_ (by rwa [liftedBy_of_adcRequest hp]) (by simp [isWait_eq_false_of_adcRequest hp])
  rintro rfl
  exact absurd hp (by decide)

/-- A sampling phase that is entered begins a call (60_exceptions.md R226). -/
theorem Enters.callBegins {s : State} {p : Phase} {k : Nat} (h : Enters s p k) (hp : adcRequest p = true) :
    callBegins s k :=
  ⟨h.phase ▸ hp, h.first⟩

/-- The phases of a session before `W_SOF` are the sampling phases. -/
theorem adcRequest_of_phaseIndex_lt {p : Phase} (hIdle : p ≠ .idle) (h : phaseIndex p < phaseIndex .wSof) :
    adcRequest p = true := by
  revert hIdle h; cases p <;> decide

/-- Until `W_SOF` is entered a sample is requested. -/
theorem Enters.adcRequest_before {s : State} {n : Nat} (h : Enters s .wSof n) {k : Nat} (hk : k < n) :
    adcRequest (phaseAt s k) = true := by
  obtain ⟨hsession, hphase, hfirst⟩ := h
  obtain ⟨m, rfl⟩ := Nat.exists_eq_succ_of_ne_zero (Nat.ne_zero_of_lt hk)
  have hkm := phaseIndex_le_of_inSession (Nat.lt_succ_iff.mp hk) (inSession_of_le hsession m.le_succ)
  have hmn := phaseIndex_le_of_inSession m.le_succ hsession
  have hne : phaseIndex (phaseAt s m) ≠ phaseIndex (phaseAt s (m + 1)) :=
    fun heq => hfirst m rfl (phaseIndex_injective heq)
  rw [hphase] at hmn hne
  exact adcRequest_of_phaseIndex_lt (hsession k hk.le) (hkm.trans_lt (lt_of_le_of_ne hmn hne))

/-- With answers after at most `m` ticks of waiting, the `i`-th phase after `SMP_L` is entered within `i * (m + 1)`
ticks, up to `W_SOF`. -/
theorem exists_enters_within {s : State} {m : Nat} (hs : s.regs.phase = .smpL) (h : answersWithin m s) (i : Nat)
    (hi : i ≤ 3) : ∃ k p, k ≤ i * (m + 1) ∧ Enters s p k ∧ phaseIndex p = i + 1 := by
  induction i with
  | zero => exact ⟨0, _, Nat.zero_le _, enters_smpL hs, rfl⟩
  | succ i ih =>
    obtain ⟨k, p, hk, hp, hindex⟩ := ih (Nat.le_of_succ_le hi)
    have hreq : adcRequest p = true := adcRequest_of_phaseIndex_lt hp.ne_idle (hindex ▸ Nat.succ_lt_succ hi)
    obtain ⟨j, hjm, hj⟩ := h k hp.session (hp.callBegins hreq)
    obtain ⟨d, hdj, hnext⟩ := hp.answered hreq hj
    refine ⟨_, _, ?_, hnext, ?_⟩
    · rw [Nat.succ_mul]
      omega
    · rw [phaseIndex_nextPhase (fun h => by simp [h, adcRequest] at hreq), hindex]

/-- Settles O42, by the phases up to `W_SOF`, the first phase that no call of the collaborator belongs to. -/
theorem samplingEndsWithinTheLatency : Obligations.SamplingEndsWithinTheLatency := by
  intro m s hs h
  obtain ⟨n, p, hn, hp, hindex⟩ := exists_enters_within hs h 3 le_rfl
  obtain rfl : p = .wSof := phaseIndex_injective hindex
  refine ⟨n, hn, hp.phase, ?_, fun k hk => ⟨hp.adcRequest_before hk, ?_⟩⟩
  · rw [out, rdyLow_of_inSession hs hp.session, hp.phase]
    rfl
  · rw [rdyLow_of_inSession hs (inSession_of_le hp.session hk.le), sessionRdyLow, hp.adcRequest_before hk]
    rfl

/-- The hold of each phase before `last` that the session enters is lifted, and not by an abandonment. -/
def PassesUpTo (last : Phase) (s : State) : Prop :=
  ∀ p k, Enters s p k → phaseIndex p < phaseIndex last →
    (∃ j, liftedBy p (sampledAt s (k + j)) = true) ∧
    (isWait p = true → ∀ n, inSession s n → phaseAt s n = p → (sampledAt s n).att = true)

/-- Such a session enters every phase up to `last`. -/
theorem exists_enters {s : State} {last : Phase} (hs : s.regs.phase = .smpL) (h : PassesUpTo last s)
    (i : Nat) (hi : i + 1 ≤ phaseIndex last) : ∃ k p, Enters s p k ∧ phaseIndex p = i + 1 := by
  induction i with
  | zero => exact ⟨0, _, enters_smpL hs, rfl⟩
  | succ i ih =>
    obtain ⟨k, p, hp, hindex⟩ := ih (Nat.le_of_succ_le hi)
    have hlt : phaseIndex p < phaseIndex last := hindex ▸ hi
    have hEnd : p ≠ .wEnd := by
      rintro rfl
      revert hlt; cases last <;> decide
    obtain ⟨⟨j, hj⟩, hatt⟩ := h p k hp hlt
    obtain ⟨d, -, hnext⟩ := hp.advances hEnd hj hatt
    exact ⟨_, _, hnext, by rw [phaseIndex_nextPhase hEnd, hindex]⟩

/-- An answered call lifts the hold of its sampling phase. -/
theorem Enters.lifted_of_answers {s : State} {p : Phase} {k : Nat} (h : Enters s p k) (hp : adcRequest p = true)
    (hanswers : answersEventually s) : ∃ j, liftedBy p (sampledAt s (k + j)) = true := by
  simp only [liftedBy_of_adcRequest hp]
  exact hanswers k h.session (h.callBegins hp)

/-- Whatever `ADC_LATENCY_MAX` is, the collaborator's duty is that every call is answered. -/
theorem answersEventually_of_collaboratorDuty {s : State} (h : collaboratorDuty s) : answersEventually s := by
  unfold collaboratorDuty at h
  split at h
  · exact fun k hk hc => let ⟨j, _, hj⟩ := h k hk hc; ⟨j, hj⟩
  · exact h

/-- Settles O43, by the phases up to `W_SOF`. -/
theorem collaboratorDutyEndsSampling : Obligations.CollaboratorDutyEndsSampling := by
  intro s hs hduty
  have hpass : PassesUpTo .wSof s := by
    intro p k hp hlt
    have hreq := adcRequest_of_phaseIndex_lt hp.ne_idle hlt
    exact ⟨hp.lifted_of_answers hreq (answersEventually_of_collaboratorDuty hduty),
      by simp [isWait_eq_false_of_adcRequest hreq]⟩
  obtain ⟨n, p, hp, hindex⟩ := exists_enters hs hpass 3 le_rfl
  obtain rfl : p = .wSof := phaseIndex_injective hindex
  exact ⟨n, hp.phase, fun _ => hp.adcRequest_before⟩

/-- Between `IDLE` and `W_END` a phase is a sampling or a wait phase. -/
theorem adcRequest_or_isWait {p : Phase} (hIdle : p ≠ .idle) (hEnd : p ≠ .wEnd) :
    adcRequest p = true ∨ isWait p = true := by
  revert hIdle hEnd; cases p <;> decide

/-- A phase that is counted among the first `n` ticks fires at one of them. -/
theorem exists_fires_of_firingCount {s : State} {p : Phase} {n : Nat} (h : firingCount p n s ≠ 0) :
    ∃ a < n, phaseAt s a = p ∧ fires (ticks a s) = true := by
  induction n with
  | zero => exact absurd rfl h
  | succ n ih =>
    by_cases hn : phaseAt s n = p ∧ fires (ticks n s) = true
    · exact ⟨n, n.lt_succ_self, hn⟩
    · rw [firingCount_succ_last, if_neg (by simpa using hn), Nat.add_zero] at h
      obtain ⟨a, ha, hpa⟩ := ih h
      exact ⟨a, ha.trans n.lt_succ_self, hpa⟩

/-- Each phase of a session has fired when the session is past it. -/
theorem exists_fires_of_past {s : State} {p : Phase} {n : Nat} (hs : s.regs.phase = .smpL) (h : inSession s n)
    (hp : p ≠ .idle) (hpast : phaseIndex p < phaseIndex (phaseAt s n)) :
    ∃ a < n, phaseAt s a = p ∧ fires (ticks a s) = true := by
  refine exists_fires_of_firingCount ?_
  rw [eachPhaseFiresOnceASession s n p hs h hp, if_pos hpast]
  exact one_ne_zero

/-- Under the duties of both sides a session enters `W_END`. -/
theorem exists_enters_wEnd {s : State} (hs : s.regs.phase = .smpL) (hanswers : answersEventually s)
    (htoggle : toggleDuty s) (hatt : attentionDuty s) : ∃ k, Enters s .wEnd k := by
  have hpass : PassesUpTo .wEnd s := by
    intro p k hp hlt
    refine ⟨?_, fun hw n hn hpn => (hatt n hn).1 (hpn ▸ hw)⟩
    obtain hreq | hw := adcRequest_or_isWait hp.ne_idle (fun h => by simp [h] at hlt)
    · exact hp.lifted_of_answers hreq hanswers
    · obtain ⟨j, hj⟩ := htoggle k hp.session (hp.phase ▸ hw)
      rw [hp.phase] at hj
      exact ⟨j, by rw [liftedBy_of_isWait hw, hj, Bool.or_true]⟩
  obtain ⟨k, p, hp, hindex⟩ := exists_enters hs hpass 9 le_rfl
  obtain rfl : p = .wEnd := phaseIndex_injective hindex
  exact ⟨k, hp⟩

/-- Settles O44: the session enters `W_END` with the whole frame placed, both windows lie before, and the first
`att = 0` there commits. -/
theorem cooperativeSessionCommits : Obligations.CooperativeSessionCommits := by
  intro s bit0 bit1 hs hanswers htoggle hbits hatt
  obtain ⟨k, hk⟩ := exists_enters_wEnd hs hanswers htoggle hatt
  obtain ⟨j, hj⟩ := (hatt k hk.session).2 hk.phase
  obtain ⟨i, -, hold, hi⟩ := hold_until_lifted (s := s) (k := k) (j := j) (by rw [hk.phase, liftedBy, hj]; rfl)
  have hn : inSession s (k + i) := inSession_of_hold hk.session hold
  have hEnd : phaseAt s (k + i) = .wEnd := (congrArg Regs.phase (hold i le_rfl)).trans hk.phase
  have hclose : (sampledAt s (k + i)).att = false := by simpa [hk.phase, liftedBy] using hi
  obtain ⟨a, ha, hpa, hfa⟩ := exists_fires_of_past (p := .wTl) hs hn (by decide) (by rw [hEnd]; decide)
  obtain ⟨b, hb, hpb, hfb⟩ := exists_fires_of_past (p := .wSl) hs hn (by decide) (by rw [hEnd]; decide)
  have hbit0 := (hbits a (inSession_of_le hn ha.le) (fc_of_fires (congrArg want hpa) hfa)).1 hpa
  have hbit1 := (hbits b (inSession_of_le hn hb.le) (fc_of_fires (congrArg want hpb) hfb)).2 hpb
  obtain ⟨hidle, hport0, hport1⟩ :=
    commitDeliversTheBitsOfTheWindows s a b (k + i) hs hn hpa hfa ha hpb hfb hb hEnd hclose
  exact ⟨k + i, hn, hEnd, (sessionPlacesTheFrameInOrder s _ hs hn).2 hEnd, hidle, hport0.trans hbit0,
    hport1.trans hbit1⟩

end Sys2Proof.Machine

namespace Sys2Proof.Machine

/-! ### The design without pin-control registers (43_engine_step.md R173) -/

/-- The smaller design's tick is the engine's tick without the pins, where a capture finds `DATA_READY` released. -/
theorem slimTick_slimOf {r : Regs} (h : pinsMatchPhase r) (i : Input) :
    slimTick i (slimOf r) = slimOf (tickRegs r.phase i r) := by
  have hphase : (slimOf r).phase = r.phase := rfl
  obtain ⟨hl, ht⟩ | ⟨hw, ha, ht⟩ | ⟨hl, ha, ht⟩ := tickRegs_cases r.phase i <;> rw [ht, slimTick, hphase]
  · have hstay : (isWait r.phase && !i.att) = false := by
      cases hw : isWait r.phase
      · rfl
      · rw [liftedBy_of_isWait hw, Bool.or_eq_false_iff] at hl
        exact hl.1
    simp [hstay, hl]
  · simp [hw, ha, slimOf]
  · have hgo : (isWait r.phase && !i.att) = false := by simpa using ha
    obtain ⟨hrdy, -, -⟩ := h
    simp only [hgo, hl]
    cases hp : r.phase <;> simp_all [slimOf, fireRegs, nextPhase, lineRead, dataReadyLevel]

/-- Under the pin invariant the computed lines are those of the pin-control registers. -/
theorem slimOut_slimOf {r : Regs} (h : pinsMatchPhase r) : slimOut (slimOf r) = out r := by
  obtain ⟨hrdy, hen, hout⟩ := h
  have hbus : busLevel r = (heldNibble r).getD 0xF := by
    rw [busLevel, hen, hout]
    cases heldNibble r <;> rfl
  rw [out, hbus, hrdy, slimOut, heldNibble]
  obtain ⟨phase⟩ := r
  cases phase <;> rfl

theorem slimAfter_eq {s : State} (h : pinsMatchPhase s.regs) (n : Nat) : slimAfter s n = slimOf (ticks n s).regs := by
  induction n with
  | zero => rfl
  | succ n ih =>
    rw [slimAfter, ih, slimTick_slimOf (pinsMatchPhase_ticks h n), ticks_succ_last, tickOf_regs]
    rfl

/-- Settles O46: the smaller design keeps what the engine keeps beside the pins, and the pin invariant gives the
pins. -/
theorem designWithoutPinRegistersGivesTheSameOutputs : Obligations.DesignWithoutPinRegistersGivesTheSameOutputs := by
  intro s n h
  rw [slimAfter_eq h, slimOut_slimOf (pinsMatchPhase_ticks h n)]

/-! ### `DATA_READY` as the controller sees it (20_memory.md R68) -/

/-- Under the pin invariant a line the controller releases is low exactly in `W_SOF`. -/
theorem dataReadyLevel_of_released {r : Regs} (h : pinsMatchPhase r) {i : Input} (hi : i.rdyExt = true) :
    dataReadyLevel i r = !(r.phase == .wSof) := by
  obtain ⟨hrdy, -, -⟩ := h
  rw [dataReadyLevel, hi, hrdy, Bool.true_and]

/-- Settles O45, by the pin invariant at every tick of the session. -/
theorem readySignalIsVisibleWhenReleased : Obligations.ReadySignalIsVisibleWhenReleased := by
  intro s k hpins _ hduty hsession
  have hlevel : (sampledAt s k).rdyExt = true →
      dataReadyLevel (sampledAt s k) (ticks k s).regs = !(phaseAt s k == .wSof) :=
    dataReadyLevel_of_released (pinsMatchPhase_ticks hpins k)
  refine ⟨fun hseen => ?_, fun hp hf => ?_⟩
  · have hrdy : (sampledAt s k).rdyExt = true := by
      obtain hreq | hp | ⟨-, hrdy⟩ := hseen
      · exact hduty k hsession (.inl hreq)
      · exact hduty k hsession (.inr hp)
      · exact hrdy
    simp [hlevel hrdy]
  · have hnext : phaseAt s (k + 1) = .wLh := by rw [phaseAt_succ_of_fires hf, hp]; rfl
    refine ⟨by simp [hlevel (hduty k hsession (.inr hp)), hp], hnext, fun hrdy => ?_⟩
    rw [dataReadyLevel_of_released (pinsMatchPhase_ticks hpins (k + 1)) hrdy,
      show (ticks (k + 1) s).regs.phase = .wLh from hnext]
    rfl

/-! ### The shortest session (43_engine_step.md R183, 95_test_vectors.md V1) -/

/-- A tick uses up the first of the inputs listed. -/
theorem tickOf_cons (r : Regs) (i : Input) (rest : List Input) (n : Nat) :
    tickOf ⟨r, i :: rest, n⟩ = ⟨tickRegs r.phase i r, rest, n + 1⟩ := by
  rw [tickOf, step_eq]; rfl

/-- Every one of the inputs fires its phase, the first one phase `p`. -/
def allFire : Phase → List Input → Bool
  | _, [] => true
  | p, i :: rest => liftedBy p i && (!isWait p || i.att) && allFire (nextPhase p) rest

/-- The registers after a firing on each of the inputs. -/
def fireAll (r : Regs) (is : List Input) : Regs := is.foldl (fun r i => fireRegs r.phase i r) r

/-- A run without waits is one firing a tick. -/
theorem ticks_of_allFire {is : List Input} (rest : List Input) {r : Regs} (n : Nat) (h : allFire r.phase is = true)
    {k : Nat} (hk : k ≤ is.length) :
    ticks k ⟨r, is ++ rest, n⟩ = ⟨fireAll r (is.take k), is.drop k ++ rest, n + k⟩ := by
  induction is generalizing r n k with
  | nil => obtain rfl := Nat.le_zero.mp hk; rfl
  | cons i is ih =>
    cases k with
    | zero => rfl
    | succ k =>
      simp only [allFire, Bool.and_eq_true, Bool.or_eq_true, Bool.not_eq_true'] at h
      obtain ⟨⟨hl, ha⟩, hnext⟩ := h
      have hfire := tickRegs_fires hl (fun hw => ha.resolve_left (by simp [hw])) r
      rw [ticks_succ, List.cons_append, tickOf_cons, hfire, ih (n + 1) (by rwa [fireRegs_phase])
        (Nat.le_of_succ_le_succ hk), Nat.add_right_comm]
      rfl

/-- The eleven inputs of the shortest session have no wait. -/
theorem allFire_shortSession (l t d : Reading) (bit0 bit1 : Level) :
    allFire .idle (shortSession l t d bit0 bit1) = true := rfl

/-- Settles O41, by the eleven firings; both windows find `DATA_READY` released. -/
theorem shortSessionTransfersEverything : Obligations.ShortSessionTransfersEverything := by
  intro s l t d bit0 bit1 rest hs hin
  obtain ⟨r, inputs, n⟩ := s
  obtain rfl : inputs = _ := hin
  have hrun (k : Nat) (hk : k ≤ 11) := ticks_of_allFire (is := shortSession l t d bit0 bit1) (k := k) rest n
    (show allFire r.phase _ = true from hs ▸ allFire_shortSession l t d bit0 bit1) hk
  obtain ⟨phase⟩ := r
  obtain rfl : phase = .idle := hs
  simp only [List.map_cons, List.map_nil, phaseAt, hrun, Nat.reduceLeDiff, frameOf, ← lo_eq_and, ← hi_eq_shiftRight]
  exact ⟨rfl, rfl, rfl, rfl, Bool.and_true bit0, Bool.and_true bit1, rfl⟩

end Sys2Proof.Machine

namespace Sys2Proof.Machine

/-! ### The frame of the operations (10_state.md R20) -/

/-- A tick keeps every part `f` of the registers that its abandonment and its firing keep. -/
theorem tickRegs_keeps {α : Type} (f : Regs → α) {p : Phase} {i : Input} {r : Regs}
    (habandon : isWait p = true → i.att = false → f r.abandon = f r)
    (hfire : liftedBy p i = true → f (fireRegs p i r) = f r) : f (tickRegs p i r) = f r := by
  obtain ⟨-, ht⟩ | ⟨hw, ha, ht⟩ | ⟨hl, -, ht⟩ := tickRegs_cases p i <;> rw [ht]
  · exact habandon hw ha
  · exact hfire hl

/-- Each data register is written by its own phase alone. -/
theorem tickRegs_data (p : Phase) (i : Input) (r : Regs) :
    (p ≠ .smpL → (tickRegs p i r).light = r.light) ∧ (p ≠ .smpT → (tickRegs p i r).temp = r.temp) ∧
    (p ≠ .smpS → (tickRegs p i r).sound = r.sound) ∧ (p ≠ .wTl → (tickRegs p i r).cap0 = r.cap0) ∧
    (p ≠ .wSl → (tickRegs p i r).cap1 = r.cap1) :=
  ⟨fun hp => tickRegs_keeps Regs.light (fun _ _ => rfl) fun _ => by rw [fireRegs_light, if_neg hp],
   fun hp => tickRegs_keeps Regs.temp (fun _ _ => rfl) fun _ => by rw [fireRegs_temp, if_neg hp],
   fun hp => tickRegs_keeps Regs.sound (fun _ _ => rfl) fun _ => by rw [fireRegs_sound, if_neg hp],
   fun hp => tickRegs_keeps Regs.cap0 (fun _ _ => rfl) fun _ => by rw [fireRegs_cap0, if_neg hp],
   fun hp => tickRegs_keeps Regs.cap1 (fun _ _ => rfl) fun _ => by rw [fireRegs_cap1, if_neg hp]⟩

/-- The two registers of `DATA_BUS` (10_state.md R27, R28). -/
def Regs.bus (r : Regs) : Level × Nibble := (r.busEn, r.busOut)

/-- Only the wait phases and `W_END` write the registers of the bus. -/
theorem tickRegs_bus {p : Phase} (hw : isWait p = false) (hEnd : p ≠ .wEnd) (i : Input) (r : Regs) :
    (tickRegs p i r).bus = r.bus := by
  refine tickRegs_keeps Regs.bus (by simp [hw]) fun _ => ?_
  cases p with
  | idle | smpL | smpT | smpS => rfl
  | wEnd => exact absurd rfl hEnd
  | _ => simp [isWait, want] at hw

/-- `RDY_LOW` is written by `SMP_S`, by `W_SOF` and by the cleanup alone. -/
theorem tickRegs_rdyLow {p : Phase} {i : Input} (hS : p ≠ .smpS) (hSof : p ≠ .wSof)
    (hclean : isWait p = true ∨ p = .wEnd → i.att = true) (r : Regs) : (tickRegs p i r).rdyLow = r.rdyLow := by
  refine tickRegs_keeps Regs.rdyLow (fun hw ha => ?_) fun hl => ?_
  · simp [hclean (.inl hw)] at ha
  · have hEnd : p ≠ .wEnd := by
      rintro rfl
      simp [liftedBy, hclean (.inr rfl)] at hl
    rw [fireRegs_rdyLow, if_neg hS, if_neg (by simp [hSof, hEnd])]

/-- While `ATTENTION` is asserted a wait phase leaves the bus driven. -/
theorem tickRegs_busEn {p : Phase} (hw : isWait p = true) {i : Input} (ha : i.att = true) {r : Regs}
    (h : r.busEn = true) : (tickRegs p i r).busEn = r.busEn :=
  tickRegs_keeps Regs.busEn (by simp [ha]) fun _ => by rw [fireRegs_busEn, if_pos hw, h]

/-- Under the pin invariant the bus is driven in the wait phases after `W_SOF`. -/
theorem busEn_of_pinsMatchPhase {r : Regs} (h : pinsMatchPhase r) (hw : isWait r.phase = true)
    (hSof : r.phase ≠ .wSof) : r.busEn = true := by
  obtain ⟨-, hen, -⟩ := h
  rw [hen, heldNibble]
  revert hw hSof
  cases r.phase <;> simp [isWait, want]

/-! The lists of phases the frame names. -/

theorem not_cleanup_of_mem {p : Phase} (h : p ∈ [Instr.idle, .smpL, .smpT]) :
    p ≠ .smpS ∧ p ≠ .wSof ∧ ¬(isWait p = true ∨ p = .wEnd) := by
  revert h; cases p <;> decide

theorem not_isWait_of_mem {p : Phase} (h : p ∈ [Instr.idle, .smpL, .smpT, .smpS]) : isWait p = false ∧ p ≠ .wEnd := by
  revert h; cases p <;> decide

theorem isWait_of_mem_afterWSof {p : Phase} (h : p ∈ [Instr.wLh, .wTl, .wTh, .wSl, .wSh]) :
    isWait p = true ∧ p ≠ .wSof := by
  revert h; cases p <;> decide

theorem ne_of_mem_afterWSof {p : Phase} (h : p ∈ [Instr.wLh, .wTl, .wTh, .wSl, .wSh, .wEnd]) :
    p ≠ .smpS ∧ p ≠ .wSof := by
  revert h; cases p <;> decide

/-- Settles O15, register by register. -/
theorem eachRegisterIsWrittenOnlyByItsPhases : Obligations.EachRegisterIsWrittenOnlyByItsPhases := by
  intro op s t h
  rw [exec_eq] at h
  cases h
  obtain ⟨hlight, htemp, hsound, hcap0, hcap1⟩ := tickRegs_data op s.sampled s.regs
  refine ⟨rfl, rfl, hlight, htemp, hsound, hcap0, hcap1, fun hp => ?_, fun hp => ?_, fun hp ha => ?_, fun hp => ?_,
    fun hp ha => ?_, fun hp ha => ?_, fun hphase hop => ?_⟩
  · exact (Regs.ports_eq_iff _ _).mp (tickRegs_ports hp _ _)
  · obtain ⟨hS, hSof, hclean⟩ := not_cleanup_of_mem hp
    exact tickRegs_rdyLow hS hSof (fun h => absurd h hclean) _
  · obtain ⟨hS, hSof⟩ := ne_of_mem_afterWSof hp
    exact tickRegs_rdyLow hS hSof (fun _ => ha) _
  · obtain ⟨hw, hEnd⟩ := not_isWait_of_mem hp
    exact Prod.mk.inj (tickRegs_bus hw hEnd _ _)
  · subst hp
    rw [show tickRegs .wEnd s.sampled s.regs = s.regs from wEndTick_stays s.regs ha]
    exact ⟨rfl, rfl⟩
  · obtain ⟨hw, hSof⟩ := isWait_of_mem_afterWSof hp
    refine ⟨fun hen => (tickRegs_busEn hw ha hen).trans hen, fun hpins hop => tickRegs_busEn hw ha ?_⟩
    subst hop
    exact busEn_of_pinsMatchPhase hpins hw hSof
  · subst hop
    have hmove := phaseMove_tickRegs s.regs.phase s.sampled s.regs
    have hold : liftedBy s.regs.phase s.sampled = false :=
      Bool.eq_false_iff.mpr fun hl => (hmove.leaves_iff rfl).mpr hl hphase
    rw [hmove.eq_of_hold hold]

/-! ### What a tick reads (10_state.md R36) -/

theorem liftedBy_congr {p : Phase} {i j : Input} (h : agreeOnRead p i j) : liftedBy p i = liftedBy p j := by
  cases p <;> simp_all [agreeOnRead, liftedBy]

theorem att_congr {p : Phase} {i j : Input} (h : agreeOnRead p i j) (hw : isWait p = true) : i.att = j.att := by
  cases p <;> simp_all [agreeOnRead, isWait, want]

/-- A firing reads `adc_val` in the sampling phases and `rdy_ext` in `W_TL` and `W_SL`, nothing else of the inputs. -/
theorem fireRegs_congr {p : Phase} {i j : Input} (h : agreeOnRead p i j) (hl : liftedBy p i = true)
    (ha : isWait p = true → i.att = true) (r : Regs) : fireRegs p i r = fireRegs p j r := by
  cases p with
  | idle | wSof | wLh | wTh | wSh | wEnd => rfl
  | smpL | smpT | smpS =>
    obtain ⟨-, hval⟩ := h
    simp only [fireRegs, hval hl]
  | wTl | wSl =>
    obtain ⟨-, -, hrdy⟩ := h
    have hatt := ha rfl
    have hfc : i.fc = true := by simpa [liftedBy, hatt] using hl
    simp only [fireRegs, lineRead, dataReadyLevel, hrdy hatt hfc]

/-- What a tick does depends on what its phase reads alone. -/
theorem tickRegs_congr {p : Phase} {i j : Input} (h : agreeOnRead p i j) (r : Regs) :
    tickRegs p i r = tickRegs p j r := by
  have hlift := liftedBy_congr h
  obtain ⟨hl, ht⟩ | ⟨hw, ha, ht⟩ | ⟨hl, ha, ht⟩ := tickRegs_cases p i <;> rw [ht]
  · exact ((phaseMove_tickRegs p j r).eq_of_hold (hlift ▸ hl)).symm
  · exact (tickRegs_abandons hw (att_congr h hw ▸ ha) r).symm
  · rw [fireRegs_congr h hl ha]
    exact (tickRegs_fires (hlift ▸ hl) (fun hw => att_congr h hw ▸ ha hw) r).symm

/-- Settles O16: both ticks write the same registers, and the rest of the next state is that of the list. -/
theorem unreadInputsHaveNoEffect : Obligations.UnreadInputsHaveNoEffect := by
  intro s t u i j rest h ht hu
  rw [step_next_iff] at ht hu
  rw [ht, hu, tickOf_cons, tickOf_cons, tickRegs_congr h]

/-! ### Scripts (30_encoding.md R91) -/

theorem ticks_tick (n : Nat) (s : State) : (ticks n s).tick = s.tick + n := by
  induction n with
  | zero => rfl
  | succ n ih => rw [ticks_succ_last, tickOf_tick, ih, Nat.add_assoc]

theorem ticks_inputs (n : Nat) (s : State) : (ticks n s).inputs = s.inputs.drop n := by
  induction n with
  | zero => rfl
  | succ n ih => rw [ticks_succ_last, tickOf_inputs, ih, List.tail_drop]

/-- Applying words is running as many ticks on a list that begins with them. -/
theorem applyInputs_eq (words : List Input) (s : State) :
    applyInputs words s = some (ticks words.length { s with inputs := words ++ s.inputs }) := by
  induction words generalizing s with
  | nil => rfl
  | cons i rest ih =>
    rw [applyInputs, step_eq_tickOf]
    simp only [ih, List.length_cons, ticks_succ, List.cons_append, tickOf_cons]

/-- Settles O30: a run never stops, and a tick uses up one input. -/
theorem scriptWordsAreOneTickEach : Obligations.ScriptWordsAreOneTickEach := by
  intro cur script s
  refine ⟨_, applyInputs_eq _ s, ?_, ticks_tick _ _, rfl⟩
  rw [ticks_inputs, List.drop_left]

/-! ### The ends of a session (40_session_controller.md R101, R105, R107) -/

/-- A step in a wait phase at `att = 0` is the abandonment (60_exceptions.md R204). -/
theorem regs_of_step_abandons {s t : State} (h : step s = .next t) (hw : isWait s.regs.phase = true)
    (ha : s.sampled.att = false) :
    t.regs = { s.regs with rdyLow := false, busEn := false, busOut := 0xF, phase := .idle } := by
  rw [regs_of_step h, tickRegs_abandons hw ha, abandon_eq]

/-- Settles O21: of the two exits of a session only the abandonment is outside `W_END`. -/
theorem abandonIsRaisedExactlyInWaitPhases : Obligations.AbandonIsRaisedExactlyInWaitPhases := by
  intro s t h
  have habandon := fun hmem => regs_of_step_abandons h ((isWait_iff_mem _).mpr hmem)
  refine ⟨⟨?_, ?_⟩, habandon⟩
  · rintro ⟨hSession, hEnd, hIdle⟩
    obtain ⟨hp, -⟩ | ⟨hmem, ha, -⟩ := aSessionHasTwoExits s t h hSession hIdle
    · exact absurd hp hEnd
    · exact ⟨hmem, ha⟩
  · rintro ⟨hmem, ha⟩
    have hw := (isWait_iff_mem _).mpr hmem
    refine ⟨ne_idle_of_isWait hw, ?_, by rw [habandon hmem ha]⟩
    intro hEnd
    simp [hEnd, isWait, want] at hw

/-- Both exits of a session sample `att = 0` and release both lines. -/
theorem released_of_session_end {s t : State} (h : step s = .next t) (hSession : s.regs.phase ≠ .idle)
    (hIdle : t.regs.phase = .idle) :
    s.sampled.att = false ∧ t.regs.rdyLow = false ∧ t.regs.busEn = false := by
  obtain ⟨-, ha, ht⟩ | ⟨-, ha, ht⟩ := aSessionHasTwoExits s t h hSession hIdle <;> rw [ht]
  · exact ⟨ha, rfl, rfl⟩
  · exact ⟨ha, rfl, rfl⟩

/-- Settles O23: both exits release the lines, and a tick in `IDLE` writes `PHASE` alone. -/
theorem sessionsDoNotOverlap : Obligations.SessionsDoNotOverlap := by
  intro s t u ht hu hSession hIdle
  obtain ⟨ha, hrdy, hen⟩ := released_of_session_end ht hSession hIdle
  have hidle : u.regs = idleTick t.sampled t.regs := by rw [regs_of_step hu, hIdle]; rfl
  refine ⟨ha, by simp [out, busLevel, hen], by simp [out, hrdy], by simp [out, hIdle, adcRequest], ?_⟩
  rw [hidle]
  cases hatt : t.sampled.att <;> simp [idleTick, hatt, hIdle, out, busLevel, adcRequest, adcChannel]

end Sys2Proof.Machine

namespace Sys2Proof.Machine

/-! ### The transition table (43_engine_step.md R184) -/

/-- The low half of a reading as the table writes it. -/
theorem lo_eq_ofNat (v : Reading) : lo v = BitVec.ofNat 4 (v.toNat % 16) := by
  rw [← lo_toNat, BitVec.ofNat_toNat, BitVec.setWidth_eq]

/-- The high half of a reading as the table writes it. -/
theorem hi_eq_ofNat (v : Reading) : hi v = BitVec.ofNat 4 (v.toNat / 16) := by
  rw [← hi_toNat, BitVec.ofNat_toNat, BitVec.setWidth_eq]

/-- Exactly one row applies, and it says what the tick does: the cases are the rows. -/
theorem exists_row {i : Input} {r : Regs} (h : pinsMatchPhase r) :
    ∃ row, transitionTable.filter (rowApplies i r) = [row] ∧ applyRow i r row = tickRegs r.phase i r := by
  obtain ⟨hrdy, hen, -⟩ := h
  obtain ⟨att, fc, rdyExt, adcDone, adcVal⟩ := i
  obtain ⟨phase, light, temp, sound, cap0, cap1, port0, port1, rdyLow, busEn, busOut⟩ := r
  cases phase with
  | idle | wEnd => cases att <;> exact ⟨_, rfl, rfl⟩
  | smpL | smpT | smpS => cases adcDone <;> exact ⟨_, rfl, rfl⟩
  | wSof =>
    cases att
    · exact ⟨_, rfl, rfl⟩
    · cases fc
      · exact ⟨_, rfl, rfl⟩
      · refine ⟨_, rfl, ?_⟩
        rw [tickRegs_fires rfl fun _ => rfl, fireRegs, lo_eq_ofNat]
        rfl
  | wTl | wSl =>
    obtain rfl : rdyLow = false := hrdy
    obtain rfl : busEn = true := hen
    cases att
    · exact ⟨_, rfl, rfl⟩
    · cases fc
      · exact ⟨_, rfl, rfl⟩
      · refine ⟨_, rfl, ?_⟩
        rw [tickRegs_fires rfl fun _ => rfl, fireRegs, lo_eq_ofNat, lineRead, dataReadyLevel, Bool.not_false,
          Bool.and_true]
        rfl
  | wLh | wTh | wSh =>
    obtain rfl : busEn = true := hen
    cases att
    · exact ⟨_, rfl, rfl⟩
    · cases fc
      · refine ⟨_, rfl, ?_⟩
        rw [tickRegs_fires rfl fun _ => rfl, fireRegs, hi_eq_ofNat]
        rfl
      · exact ⟨_, rfl, rfl⟩

/-- Settles O17, by the row that applies. -/
theorem stepFollowsTheTransitionTable : Obligations.StepFollowsTheTransitionTable := by
  intro s h
  obtain ⟨row, hrow, happly⟩ := exists_row (i := s.sampled) h
  refine ⟨row, hrow, ?_⟩
  rw [step_eq, happly]
  rfl
end Sys2Proof.Machine

namespace Sys2Proof.Machine

/-! ### Codes and words (30_encoding.md R80, R81) -/

/-- Every row of the table compares the whole code and names the operation of its pattern. -/
theorem encode_of_mem_opcodeTable : ∀ row ∈ opcodeTable, row.mask = BitVec.allOnes 4 ∧ encode row.op = row.pattern := by
  decide

/-- A code that decodes to an operation is its code. -/
theorem encode_of_decode {c : BitVec 4} {i : Instr} (h : decode c = .ok i) : encode i = c := by
  unfold decode at h
  split at h
  next row hrow =>
    obtain rfl := Except.ok.inj h
    obtain ⟨hmask, hpattern⟩ := encode_of_mem_opcodeTable row (List.mem_of_find?_eq_some hrow)
    have hmatch := List.find?_some hrow
    rw [rowMatches, hmask, BitVec.and_allOnes, beq_iff_eq] at hmatch
    rw [hpattern, hmatch]
  next => exact absurd h nofun

/-- A code is rejected as reserved or decodes. -/
theorem decode_ok_or_reserved (c : BitVec 4) : (∃ i, decode c = .ok i) ∨ decode c = .error (.reservedCode c) := by
  unfold decode
  split
  · exact .inl ⟨_, rfl⟩
  · exact .inr rfl

/-- The operations have the codes 0 to 10. -/
theorem exists_encode_eq_iff (c : BitVec 4) : (∃ i, encode i = c) ↔ c.toNat ≤ 10 := by
  constructor
  · rintro ⟨i, rfl⟩
    cases i <;> decide
  · have hall : ∀ c : BitVec 4, c.toNat ≤ 10 → ∃ row ∈ opcodeTable, encode row.op = c := by decide
    intro h
    obtain ⟨row, -, hrow⟩ := hall c h
    exact ⟨_, hrow⟩

theorem decode_ok_iff (c : BitVec 4) : (∃ i, decode c = .ok i) ↔ c.toNat ≤ 10 := by
  rw [← exists_encode_eq_iff]
  exact exists_congr fun i => ⟨encode_of_decode, fun h => h ▸ decode_encode i⟩

theorem decode_reserved {c : BitVec 4} (h : 10 < c.toNat) : decode c = .error (.reservedCode c) :=
  (decode_ok_or_reserved c).resolve_left fun hok => h.not_ge ((decode_ok_iff c).mp hok)

theorem decodeBytes_encodeByte (i : Instr) : decodeBytes [encodeByte i] = .ok i := by
  cases i <;> rfl

/-- Settles O3, from the rows of the table. -/
theorem codesRoundTrip : Obligations.CodesRoundTrip :=
  ⟨fun i => ⟨decode_encode i, decodeBytes_encodeByte i⟩, fun _ _ => encode_of_decode, decode_ok_iff,
    fun _ => decode_reserved⟩

theorem decodeTableWord_encode (i : Instr) : decodeTableWord 8 (encode i).toNat = some i := by
  cases i <;> rfl

/-- A byte from 11 up is a reserved code or wider than `PHASE4`. -/
theorem decodeBytes_rejects {b : BitVec 8} (h : 11 ≤ b.toNat) : ∃ e, decodeBytes [b] = .error e := by
  rw [decodeBytes]
  split
  next hlt =>
    have hcode : 10 < (b.setWidth 4).toNat := by rw [BitVec.toNat_setWidth]; omega
    exact ⟨_, decode_reserved hcode⟩
  next => exact ⟨_, rfl⟩

/-- A word from 11 up is no operation. -/
theorem decodeTableWord_rejects {w : Nat} (h : 11 ≤ w) : decodeTableWord 8 w = none := by
  rw [decodeTableWord]
  split
  next hlt =>
    have hbyte : 11 ≤ (BitVec.ofNat 8 w).toNat := by rw [BitVec.toNat_ofNat]; omega
    obtain ⟨e, he⟩ := decodeBytes_rejects hbyte
    rw [show lowBytes ((8 + 7) / 8) w = [BitVec.ofNat 8 w] from rfl, he]
  next => rfl

/-- Settles O2: a word that decodes is placed, one that does not changes nothing. -/
theorem tableWordsSelectTheirOperations : Obligations.TableWordsSelectTheirOperations := by
  refine fun s => ⟨fun i => ?_, fun w hw => placeWord_of_reject s (decodeTableWord_rejects hw)⟩
  rw [State.withFetchWord, placeWord_of_decode s (decodeTableWord_encode i)]
  exact ⟨rfl, rfl⟩

/-- Settles O1: the code in `PHASE` decodes to the operation `PHASE` holds. -/
theorem stepPerformsTheOperationInPhase : Obligations.StepPerformsTheOperationInPhase := by
  intro s i hi _
  obtain rfl : s.regs.phase = i := encode_injective (encode_of_decode hi).symm
  rw [step_eq, exec_eq]
  rfl

/-! ### What each operation answers (40_session_controller.md, 41_sampling.md, 42_nibble_sequencer.md) -/

/-- An operation whose hold is lifted, and not by an abandonment, fires. -/
theorem exec_fires {p : Phase} {s : State} (hl : liftedBy p s.sampled = true)
    (ha : isWait p = true → s.sampled.att = true) :
    exec p s = .next { s with regs := fireRegs p s.sampled s.regs } := by
  rw [exec_eq, tickRegs_fires hl ha]

/-- An operation whose hold is not lifted changes nothing. -/
theorem exec_holds {p : Phase} {s : State} (hold : liftedBy p s.sampled = false) : exec p s = .next s := by
  rw [exec_eq, (phaseMove_tickRegs p s.sampled s.regs).eq_of_hold hold]

/-- Settles O4: `att` alone lifts the hold of `IDLE`, and its firing writes `PHASE` alone. -/
theorem idleOpensASessionAtAttention : Obligations.IdleOpensASessionAtAttention :=
  fun _ => ⟨fun ha => exec_fires ha nofun, fun ha => exec_holds ha⟩

/-- Settles O5: `adc_done` alone lifts the hold. -/
theorem sampleLightLatchesLight : Obligations.SampleLightLatchesLight :=
  fun _ => ⟨fun hd => exec_fires hd nofun, fun hd => exec_holds hd⟩

/-- Settles O6: `adc_done` alone lifts the hold. -/
theorem sampleTemperatureLatchesTemp : Obligations.SampleTemperatureLatchesTemp :=
  fun _ => ⟨fun hd => exec_fires hd nofun, fun hd => exec_holds hd⟩

/-- Settles O7: `adc_done` alone lifts the hold. -/
theorem sampleSoundLatchesSoundAndPullsReadyLow : Obligations.SampleSoundLatchesSoundAndPullsReadyLow :=
  fun _ => ⟨fun hd => exec_fires hd nofun, fun hd => exec_holds hd⟩

/-- The three answers of a phase that waits for `FRAME_CLOCK` high. -/
theorem exec_of_want_high {p : Phase} (hwant : want p = some true) (s : State) :
    (s.sampled.att = true → s.sampled.fc = true →
      exec p s = .next { s with regs := fireRegs p s.sampled s.regs }) ∧
    (s.sampled.att = true → s.sampled.fc = false → exec p s = .next s) ∧
    (s.sampled.att = false →
      exec p s =
        .next { s with regs := { s.regs with rdyLow := false, busEn := false, busOut := 0xF, phase := .idle } }) := by
  rw [← abandon_eq]
  exact exec_of_awaitFrameClock hwant (tickRegs_of_isWait (isWait_of_want hwant)) s

/-- Settles O8: `W_SOF` places the low nibble of `LIGHT` and releases `DATA_READY`. -/
theorem startOfFramePlacesLightLow : Obligations.StartOfFramePlacesLightLow := by
  intro s
  rw [← lo_eq_and]
  exact exec_of_want_high rfl s

/-- Settles O10: `W_TL` places the low nibble of `TEMP` and captures the line. -/
theorem tempLowIsPlacedAndPort0Captured : Obligations.TempLowIsPlacedAndPort0Captured := by
  intro s
  rw [← lo_eq_and]
  exact exec_of_want_high rfl s

/-- Settles O12: `W_SL` places the low nibble of `SOUND` and captures the line. -/
theorem soundLowIsPlacedAndPort1Captured : Obligations.SoundLowIsPlacedAndPort1Captured := by
  intro s
  rw [← lo_eq_and]
  exact exec_of_want_high rfl s

/-- Settles O14: the firing of `W_END` is the commit and the cleanup. -/
theorem sessionEndCommitsAndReleases : Obligations.SessionEndCommitsAndReleases :=
  fun s => ⟨fun ha => exec_fires (by rw [liftedBy, ha]; rfl) nofun, fun ha => exec_holds (by rw [liftedBy, ha]; rfl)⟩

/-- Settles O24: `SMP_S` fires without reading `att`, then `W_SOF` abandons. -/
theorem withdrawalDuringSamplingGivesALowPulse : Obligations.WithdrawalDuringSamplingGivesALowPulse := by
  intro s i j rest hs hin hi _ hj
  obtain ⟨r, inputs, n⟩ := s
  obtain rfl : inputs = _ := hin
  have hfirst : tickOf ⟨r, i :: j :: rest, n⟩ = ⟨fireRegs .smpS i r, j :: rest, n + 1⟩ := by
    rw [tickOf_cons, show r.phase = .smpS from hs,
      tickRegs_fires (show liftedBy .smpS i = true from hi) nofun]
  have hsecond : tickOf ⟨fireRegs .smpS i r, j :: rest, n + 1⟩ = ⟨(fireRegs .smpS i r).abandon, rest, n + 2⟩ := by
    rw [tickOf_cons, tickRegs_abandons rfl hj]
  exact ⟨_, _, (step_next_iff _ _).mpr hfirst.symm, (step_next_iff _ _).mpr hsecond.symm, rfl, rfl, rfl, rfl, rfl, rfl,
    rfl, rfl, rfl⟩

/-! ### Reset (10_state.md R40) -/

theorem specifiedAtReset_reset : specifiedAtReset (Regs.reset Config.portReset) := ⟨rfl, rfl, rfl, rfl, rfl, rfl⟩

theorem pinsMatchPhase_reset : pinsMatchPhase (Regs.reset Config.portReset) := ⟨rfl, rfl, rfl⟩

/-- Settles O25: a power cycle leaves the reset registers. -/
theorem resetReleasesTheLines : Obligations.ResetReleasesTheLines :=
  ⟨⟨specifiedAtReset_reset, pinsMatchPhase_reset⟩, fun _ => ⟨specifiedAtReset_reset, pinsMatchPhase_reset⟩⟩

/-! ### The words of a test vector (30_encoding.md R89, R90) -/

/-- The output word, bit by bit from its parts. -/
theorem getLsbD_outputWord (o : Output) (k : Nat) :
    (outputWord o).getLsbD k =
      if k < 9 then
        if k < 8 then
          if k < 6 then
            if k < 5 then
              if k < 4 then o.dataBus.getLsbD k else (bitOf (o.dataReady == .low)).getLsbD (k - 4)
            else (bitOf o.adcReq).getLsbD (k - 5)
          else (channelCode o.adcCh).getLsbD (k - 6)
        else (bitOf o.pin0).getLsbD (k - 8)
      else (bitOf o.pin1).getLsbD (k - 9) := by
  rw [outputWord, BitVec.getLsbD_append, BitVec.getLsbD_append, BitVec.getLsbD_append, BitVec.getLsbD_append,
    BitVec.getLsbD_append]

/-- The fields of the output word. -/
theorem outputWord_fields (o : Output) :
    (outputWord o).extractLsb' 0 4 = o.dataBus ∧ (outputWord o).getLsbD 4 = (o.dataReady == .low) ∧
    (outputWord o).getLsbD 5 = o.adcReq ∧ (outputWord o).extractLsb' 6 2 = channelCode o.adcCh ∧
    (outputWord o).getLsbD 8 = o.pin0 ∧ (outputWord o).getLsbD 9 = o.pin1 := by
  refine ⟨BitVec.eq_of_getLsbD_eq fun k hk => ?_, ?_, ?_, BitVec.eq_of_getLsbD_eq fun k hk => ?_, ?_, ?_⟩
  · rw [BitVec.getLsbD_extractLsb', getLsbD_outputWord]
    simp [hk, show k < 9 by omega, show k < 8 by omega, show k < 6 by omega, show k < 5 by omega]
  · rw [getLsbD_outputWord]; simp [bitOf]
  · rw [getLsbD_outputWord]; simp [bitOf]
  · rw [BitVec.getLsbD_extractLsb', getLsbD_outputWord]
    simp [hk, show 6 + k < 9 by omega, show 6 + k < 8 by omega]
  · rw [getLsbD_outputWord]; simp [bitOf]
  · rw [getLsbD_outputWord]; simp [bitOf]

/-- The input word, bit by bit from its parts. -/
theorem getLsbD_inputWord (i : Input) (k : Nat) :
    (inputWord i).getLsbD k =
      if k < 4 then
        if k < 3 then
          if k < 2 then
            if k < 1 then (bitOf i.att).getLsbD k else (bitOf i.fc).getLsbD (k - 1)
          else (bitOf i.rdyExt).getLsbD (k - 2)
        else (bitOf i.adcDone).getLsbD (k - 3)
      else i.adcVal.getLsbD (k - 4) := by
  rw [inputWord, BitVec.getLsbD_append, BitVec.getLsbD_append, BitVec.getLsbD_append, BitVec.getLsbD_append]

/-- The fields of the input word. -/
theorem inputWord_fields (i : Input) :
    (inputWord i).getLsbD 0 = i.att ∧ (inputWord i).getLsbD 1 = i.fc ∧ (inputWord i).getLsbD 2 = i.rdyExt ∧
    (inputWord i).getLsbD 3 = i.adcDone ∧ (inputWord i).extractLsb' 4 8 = i.adcVal := by
  refine ⟨?_, ?_, ?_, ?_, BitVec.eq_of_getLsbD_eq fun k hk => ?_⟩
  · rw [getLsbD_inputWord]; simp [bitOf]
  · rw [getLsbD_inputWord]; simp [bitOf]
  · rw [getLsbD_inputWord]; simp [bitOf]
  · rw [getLsbD_inputWord]; simp [bitOf]
  · rw [BitVec.getLsbD_extractLsb', getLsbD_inputWord]
    simp [hk]

theorem inputOfWord_inputWord (i : Input) : inputOfWord (inputWord i) = i := by
  obtain ⟨hatt, hfc, hrdy, hdone, hval⟩ := inputWord_fields i
  rw [inputOfWord, hatt, hfc, hrdy, hdone, hval]

theorem inputWord_inputOfWord (w : BitVec 12) : inputWord (inputOfWord w) = w := by
  refine BitVec.eq_of_getLsbD_eq fun k hk => ?_
  rw [getLsbD_inputWord]
  interval_cases k <;> simp [inputOfWord, bitOf]

/-- Settles O28, from the fields of the two words. -/
theorem outputAndInputWordsShowTheirFields : Obligations.OutputAndInputWordsShowTheirFields := by
  refine ⟨fun r => ?_, inputWord_fields, inputOfWord_inputWord, inputWord_inputOfWord⟩
  obtain ⟨hbus, hready, hreq, hch, hpin0, hpin1⟩ := outputWord_fields (out r)
  refine ⟨hbus, hready.trans ?_, ?_, hch.trans ?_, hpin0, hpin1, ?_⟩
  · cases h : r.rdyLow <;> simp [out, h]
  · rw [hreq]
    simp only [out]
    cases r.phase <;> decide
  · simp only [out]
    cases r.phase <;> rfl
  · simp only [out]
    cases r.phase <;> decide

/-! ### The statements of a script (30_encoding.md R91) -/

/-- Settles O29: both sides apply the same words and leave the same current word. -/
theorem scriptPseudoStatementsExpand : Obligations.ScriptPseudoStatementsExpand := by
  refine fun cur rest v n => ⟨rfl, rfl, rfl, rfl, ?_⟩
  simp only [assembleFrom, stmtWords, List.replicate_succ', List.append_assoc]
  rfl

end Sys2Proof.Machine
